-- ==== Sys2Proof/Word.lean ====
section
/-! DEFINITION. The fixed widths of the LC-32: octets, the 16-, 32- and 48-bit numbers of R177, the 256-bit key and
the 128-bit block of the permutation E (R45). -/

namespace Sys2Proof

/-- One octet (R177). -/
abbrev Byte := BitVec 8
/-- A 16-bit number: a generation, a report number, a 2-octet field. -/
abbrev W16 := BitVec 16
/-- A 32-bit number: a counter, a wear count, a limit, a sequence, a time in seconds. -/
abbrev W32 := BitVec 32
/-- A 48-bit number: an Ethernet address or the serial identity. -/
abbrev W48 := BitVec 48
/-- A key of E: 256 bits (R11). -/
abbrev Key := BitVec 256
/-- A block of E: 16 octets, the first octet most significant (R177). -/
abbrev Block := BitVec 128

/-- An association number, 0 to 31 (R1). -/
abbrev AssocId := Fin 32
/-- A monitor number, 0 to 15 (R122). -/
abbrev MonitorId := Fin 16

end Sys2Proof
end

