-- ==== Sys2Proof/Syntax.lean ====
section
/-! DEFINITION. The commands of the LC-32: one constructor of `Instr` for each row of spec/opcode_table.json, and the
small types their operands use. -/

namespace Sys2Proof

/-- The two key banks of an association (R11). -/
inductive BankId where
  | bankA
  | bankB
  deriving DecidableEq, Repr

/-- The PACE input (R85). -/
inductive Pace where
  | go
  | hold
  deriving DecidableEq, Repr

/-- The reset conditions that come from outside the part (R173). SOFT is the part's own. -/
inductive ResetCondition where
  | power
  | brownout
  | pin
  deriving DecidableEq, Repr

/-- How far a start-up gets (R173, R175): to its last step, or abandoned by a reset condition before or after the one
write of the boot epoch at step 2. -/
inductive StartUpOutcome where
  | completed
  | abandonedBeforeWrite (c : ResetCondition)
  | abandonedAfterWrite (c : ResetCondition)
  deriving DecidableEq, Repr

/-- What the line watch takes at once (R83): a 1 bit in REST, a station bit of a claim, the third station bit of a claim
with those before it that have not been given, or one octet. -/
inductive WatchInput where
  | idleBit
  | stationBit
  | thirdStationBit
  | octet (o : Byte)
  deriving DecidableEq, Repr

/-- Where in a burst a HOLD event falls (R93): before the first bit of the frame that comes next (a frame boundary, or
after the claim), inside a frame, or in the last octet of a frame's closing delimiter. -/
inductive HoldPoint where
  | atBoundary
  | inFrame
  | inLastOctet
  deriving DecidableEq, Repr

/-- What the engine hands over beside a control message (R57, R157): the association 0 bank that deciphered the
carrying frame, that bank's generation, and the frame's sequence. -/
structure Carrier where
  bank : BankId
  generation : W16
  sequence : W32
  deriving DecidableEq, Repr

/-- The commands: one constructor for each row of the table of operations and events, in the table's order. -/
inductive Instr where
  /-- R22. The octets of the frame received since the last event, and the MAC side's receive-error mark. -/
  | shopFrameArrival (octets : List Byte) (errorMarked : Bool)
  /-- R36. The MAC side becomes ready. -/
  | shopTransmitStart
  /-- R36. The last frame-check octet is passed on; whether the MAC side is ready for a further frame from now on. With no
  frame in transmission, the ready input alone (log entry 17). -/
  | shopTransmissionEnd (macReady : Bool)
  /-- R68. The octet at which the frame in reception is dropped at framing. -/
  | trunkFramingDrop (octet : Byte)
  /-- R69. The closing delimiter of the staged frame. -/
  | trunkFrameArrival
  /-- R51. -/
  | outboundCompletion
  /-- R53 to R57. -/
  | inboundCompletion
  /-- R104. -/
  | unwrapCompletion
  /-- R159. A control message given octet by octet. -/
  | controlMessageInvalid (via : Carrier) (octets : List Byte)
  /-- R161. -/
  | echo (via : Carrier) (tag : Byte) (body : List Byte)
  /-- R162. -/
  | tableRead (via : Carrier) (tag table first count : Byte)
  /-- R33. -/
  | tableWriteFlow (via : Carrier) (tag first count : Byte) (entries : List Byte)
  /-- R164. -/
  | tableWriteAssocConfig (via : Carrier) (tag first count : Byte) (entries : List Byte)
  /-- R131. -/
  | tableWriteMonitor (via : Carrier) (tag first count : Byte) (entries : List Byte)
  /-- R170. -/
  | tableWriteSettings (via : Carrier) (tag first count : Byte) (entries : List Byte)
  /-- R4. -/
  | assocOpen (via : Carrier) (tag assoc : Byte)
  /-- R5. -/
  | assocClose (via : Carrier) (tag assoc : Byte)
  /-- R8. -/
  | assocResume (via : Carrier) (tag assoc : Byte)
  /-- R101. -/
  | keyOffer (via : Carrier) (tag assoc : Byte) (generation : W16) (wrapped : Key) (wrapCheck : BitVec 64)
  /-- R106. -/
  | keySwitch (via : Carrier) (tag assoc : Byte) (generation : W16)
  /-- R109. -/
  | keyWithdraw (via : Carrier) (tag assoc : Byte) (generation : W16)
  /-- R139. -/
  | monitorClear (via : Carrier) (tag monitor : Byte)
  /-- R152. -/
  | reportAck (via : Carrier) (tag : Byte) (numbers : List W16)
  /-- R167. -/
  | serviceSet (via : Carrier) (tag value : Byte)
  /-- R168. -/
  | restart (via : Carrier) (tag : Byte)
  /-- R168. -/
  | restartLimitExpiry
  /-- R173. A reset condition arises (`present`) or ends. -/
  | resetCondition (condition : ResetCondition) (present : Bool)
  /-- R174. The straps and the PACE input as they stand, and how far the start-up gets. -/
  | startUp (straps : BitVec 3) (pace : Pace) (outcome : StartUpOutcome)
  /-- R171. -/
  | timeBaseSecond
  /-- R110. -/
  | drainDeadlineExpiry (assoc : AssocId) (bank : BankId)
  /-- R114. -/
  | renewRequestTimerExpiry (assoc : AssocId)
  /-- R132. -/
  | startupInhibitExpiry (monitor : MonitorId)
  /-- R126. -/
  | monitorSample (monitor : MonitorId)
  /-- R151. -/
  | ackDeadlineExpiry (number : W16)
  /-- R149. -/
  | pacingTimerExpiry
  /-- R147. -/
  | retryTimerExpiry
  /-- R84. -/
  | lineQuiet
  /-- R92. -/
  | openGap
  /-- R84. -/
  | claimByOtherStation
  /-- R83. The octet that takes the line watch's octet count past its limit. -/
  | lineWatchGuard (octet : Byte)
  /-- R86. Whether the line read back 0 in the start bit, as driven. -/
  | claimStart (readsLow : Bool)
  /-- R87. The bit of the claim, 0 the start bit, whose readback differs. -/
  | claimLost (bit : Fin 4)
  /-- R87. -/
  | claimWon
  /-- R82. -/
  | frameSent
  /-- R90. -/
  | clash
  /-- R89. -/
  | burstRelease
  /-- R91. -/
  | standoffExpiry
  /-- R93. Where in a burst the change falls. -/
  | paceHold (point : HoldPoint)
  /-- R94. -/
  | paceGo
  /-- R95. -/
  | trunkClockLoss
  /-- R97. -/
  | trunkClockReturn
  /-- R67. -/
  | huntDelimiterFound
  /-- R67. -/
  | trunkReceiveOctet (octet : Byte)
  /-- R83. -/
  | busyPeriodEnd
  /-- R83. -/
  | lineWatchOctet (input : WatchInput)
  /-- R163. -/
  | tableWriteBadTable (via : Carrier) (tag table first count : Byte) (entries : List Byte)
  deriving DecidableEq, Repr

end Sys2Proof
end

