-- ==== Sys2Proof/Decode.lean ====
section
/-! DEFINITION. The command a word spells by the table's bits. The table of operations and events gives no row any bits,
so no word spells a command (log entry 12). -/

namespace Sys2Proof

/-- The command that a word of `nbits` bits spells: none, for no row of the table gives bits. -/
def decodeTableWord (_nbits _w : Nat) : Option Instr := none

end Sys2Proof
end

