-- ==== Sys2Proof/Machine/Types.lean ====
section
/-! DEFINITION. The records the blocks of the LC-32 hold, as plain data: one structure for each record the spec
describes, one inductive type for each set of names. -/

namespace Sys2Proof.Machine

/-! ## Association Store -/

/-- R1: what an association admits. -/
inductive AssocState where
  | vacant
  | pending
  | live
  | suspended
  | closing
  deriving DecidableEq, Repr

/-- R1: the traffic an association carries. -/
inductive Direction where
  | both
  | outbound
  | inbound
  deriving DecidableEq, Repr

/-- R1: the send priority of a frame on the trunk. -/
inductive TrafficClass where
  | control
  | urgent
  | bulk
  deriving DecidableEq, Repr

/-- R11: the state of a key bank. -/
inductive BankState where
  | empty
  | fresh
  | active
  | draining
  | retiring
  deriving DecidableEq, Repr

/-- R11: a key bank record. -/
structure Bank where
  state : BankState
  generation : W16
  key : Key
  wear : W32
  nextSequence : W32
  /-- H, the highest accepted sequence; 0 when nothing is accepted yet. -/
  highest : W32
  /-- The seen-set over H−63 to H: bit `k` says that sequence `H - k` has been accepted. -/
  seen : BitVec 64
  keyAge : W32
  exhausted : Bool
  inUse : Nat
  /-- A reading of the seconds count (R110). -/
  drainDeadline : Option Nat
  deriving DecidableEq, Repr

/-- R2: an entry of ASSOC_CONFIG. Its limits, age, drain period and interval are the association's policy itself. -/
structure Policy where
  direction : Direction
  trafficClass : TrafficClass
  softLimit : W32
  hardLimit : W32
  maxKeyAge : W32
  drainPeriod : Byte
  renewInterval : Byte
  deriving DecidableEq, Repr

/-- R99: a key offer between its taking and its answer. -/
structure Transaction where
  target : AssocId
  generation : W16
  tag : Byte
  bank : BankId
  bankGeneration : W16
  deriving DecidableEq, Repr

/-- R19: the eight association counters. -/
inductive AssocCounter where
  | enciphered
  | deciphered
  | tagFail
  | replay
  | staleGen
  | exhaustDrop
  | stateDrop
  | queueDrop
  deriving DecidableEq, Repr

/-- R20: the fifteen station counters. -/
inductive StationCounter where
  | shopBad
  | unmatched
  | serviceDrop
  | crcBad
  | malformed
  | misaddressed
  | claimLoss
  | clash
  | paceAbort
  | clockLoss
  | responseDrop
  | inboxDrop
  | reportDrop
  | deliveryDrop
  | wrapReject
  deriving DecidableEq, Repr

/-- R1: an association record, with its counters (R19), its level QUIET (R21) and its renew-request timer (R114). -/
structure Assoc where
  state : AssocState
  direction : Direction
  trafficClass : TrafficClass
  policy : Policy
  selector : BankId
  bankA : Bank
  bankB : Bank
  inFlight : Nat
  transaction : Option Transaction
  monitorRenewal : Bool
  /-- The eight counters, in the item order of R179. -/
  counters : Vector W32 8
  quiet : W16
  /-- A reading of the seconds count; present exactly while the association's renew-request timer runs. -/
  renewDeadline : Option Nat
  deriving DecidableEq, Repr

/-! ## Shop Port and Flow Classifier -/

/-- R36: what the Shop Port's transmit side does. -/
inductive ShopTransmit where
  | idle
  /-- The octets being sent: the plaintext, its padding and its frame check. -/
  | sending (octets : List Byte)
  deriving DecidableEq, Repr

/-- R22, R35, R36: the Shop Port. -/
structure ShopPort where
  /-- The receive buffer; its octet count is its length. -/
  receive : List Byte
  transmit : ShopTransmit
  /-- Shop Delivery Queue, oldest at the head. -/
  delivery : List (List Byte)
  /-- The MAC side's ready input, as last given. -/
  macReady : Bool
  deriving DecidableEq, Repr

/-- R27: a Flow Table entry. Its action, association and lane match are held as written, for an entry written with
valid = no is stored unchecked (R33). -/
structure FlowEntry where
  valid : Bool
  action : Byte
  association : Byte
  ethertypeGiven : Bool
  laneMatch : W16
  ethertype : W16
  destinationGiven : Bool
  destination : W48
  hits : W32
  deriving DecidableEq, Repr

/-- R26: the three values a shop frame is matched on; `lane` is absent for an untagged frame. -/
structure Parsed where
  destination : W48
  lane : Option (BitVec 12)
  ethertype : W16
  deriving DecidableEq, Repr

/-! ## Cipher Engine -/

/-- R38: an outbound work item. -/
structure OutItem where
  assoc : AssocId
  plaintext : List Byte
  /-- The restart mark of the answer to RESTART (R168). -/
  restartMark : Bool
  /-- The item is an answer built at the taking of its message, which set the answer-outstanding mark (R158). -/
  setsMark : Bool
  deriving DecidableEq, Repr

/-- R39: an inbound work item. -/
structure InItem where
  assoc : AssocId
  bank : BankId
  generation : W16
  sequence : W32
  header : List Byte
  ciphertext : List Byte
  tag : List Byte
  deriving DecidableEq, Repr

/-- R40: an unwrap item. -/
structure UnwrapItem where
  target : AssocId
  generation : W16
  bank : BankId
  bankGeneration : W16
  sequence : W32
  wrapped : Key
  wrapCheck : BitVec 64
  deriving DecidableEq, Repr

/-- A sealed trunk frame: header, ciphertext and tag (R79), and the restart mark (R80). -/
structure SealedFrame where
  header : List Byte
  ciphertext : List Byte
  tag : List Byte
  restartMark : Bool
  deriving DecidableEq, Repr

/-- R42: the item in progress, with what the engine has computed of it at its admission. -/
inductive InProgress where
  | outbound (assoc : AssocId) (bank : BankId) (place : TrafficClass) (frame : SealedFrame)
  | inbound (item : InItem) (plaintext : List Byte) (computedTag : List Byte)
  | unwrap (item : UnwrapItem) (key : Key) (checkPasses : Bool)
  deriving DecidableEq, Repr

/-- R43: the arbiter's last-served mark. -/
inductive Side where
  | inbound
  | outbound
  deriving DecidableEq, Repr

/-- R38 to R43: the engine is IDLE when no item is in progress. -/
structure Engine where
  outbound : List OutItem
  inbound : List InItem
  unwrap : List UnwrapItem
  current : Option InProgress
  lastServed : Side
  deriving DecidableEq, Repr

/-! ## Trunk -/

/-- A reserved place of the Trunk Send Queue: its class and the restart mark of its item (R79, R80). -/
structure ReservedPlace where
  place : TrafficClass
  restartMark : Bool
  deriving DecidableEq, Repr

/-- R79: the filled places of each class, oldest first, and the reserved places. -/
structure SendQueue where
  control : List SealedFrame
  urgent : List SealedFrame
  bulk : List SealedFrame
  reserved : List ReservedPlace
  deriving DecidableEq, Repr

/-- The access states of the Trunk Access Controller (R86 to R92). -/
inductive AccessState where
  | listen
  | idle
  | reserved
  | claiming
  | sending
  | deferred
  | standoff
  deriving DecidableEq, Repr

/-- R83: the states of the line watch. -/
inductive WatchState where
  | rest
  | claim
  | boundary
  | frame
  | escaped
  deriving DecidableEq, Repr

/-- Why a frame is aborted (R90, R93). -/
inductive AbortCause where
  | clash
  | pace
  deriving DecidableEq, Repr

/-- What the controller drives on the transmit line in CLAIMING and SENDING (R87 to R93). -/
inductive Transmission where
  | none
  /-- The four bits of the station's own claim (R87). -/
  | claim (bits : List Bool)
  /-- A frame of the class, and the octets driven for it (R64). -/
  | frame (place : TrafficClass) (octets : List Byte)
  /-- The abort sequence (R65). -/
  | aborting (cause : AbortCause) (octets : List Byte)
  /-- The burst has ended after a closing delimiter and the release is due (R89). -/
  | ended
  deriving DecidableEq, Repr

/-- R83 to R98: the Trunk Access Controller beside its queue. -/
structure Access where
  state : AccessState
  watch : WatchState
  idleCount : Nat
  /-- The station bits taken of the claim on the line; 0 outside CLAIM. -/
  stationBits : Nat
  octetCount : Nat
  clashes : Nat
  openGaps : Nat
  pace : Pace
  /-- Frames sent complete in this burst (R88). -/
  sentInBurst : Nat
  transmission : Transmission
  /-- A reading of the millisecond count, while the standoff timer runs (R91). -/
  standoffDeadline : Option Nat
  /-- The clock-loss measure, a reading of the millisecond count; absent from a detected loss to the clock's return
  (R95). -/
  clockDeadline : Option Nat
  deriving DecidableEq, Repr

/-- R67: the framing states of the Trunk Receiver. -/
inductive FramingState where
  | hunt
  | opened
  | frame
  | escaped
  | discard
  deriving DecidableEq, Repr

/-- R67: framing state and staging buffer; the octet count is the buffer's length. -/
structure Receiver where
  state : FramingState
  staging : List Byte
  deriving DecidableEq, Repr

/-! ## Monitor Unit -/

/-- R124: the ten association items. -/
inductive AssocItem where
  | counter (c : AssocCounter)
  | quiet
  | wearPct
  deriving DecidableEq, Repr

/-- R124: scope and item of a source. -/
inductive SourceItem where
  | association (i : AssocItem)
  | station (c : StationCounter)
  deriving DecidableEq, Repr

/-- R126: how the measured value is formed. -/
inductive MonitorMode where
  | level
  | delta
  | rate
  deriving DecidableEq, Repr

/-- R129. -/
inductive Sense where
  | rise
  | fall
  deriving DecidableEq, Repr

/-- R122. -/
inductive Latch where
  | none
  | hold
  deriving DecidableEq, Repr

/-- R136. -/
inductive MonitorAction where
  | note
  | renew
  | suspend
  deriving DecidableEq, Repr

/-- R123: the monitor states. -/
inductive MonitorState where
  | off
  | inhibited
  | arming
  | clear
  | pending
  | fired
  deriving DecidableEq, Repr

/-- R122: the configuration of a monitor. The source association is kept as written under STATION scope, where it is
not used and not checked (R124, R131). -/
structure MonitorConfig where
  enable : Bool
  source : SourceItem
  sourceAssoc : Byte
  mode : MonitorMode
  sense : Sense
  period : Byte
  setLevel : W32
  clearLevel : W32
  persistence : Byte
  latch : Latch
  startupInhibit : Byte
  severity : Byte
  action : MonitorAction
  target : AssocId
  deriving DecidableEq, Repr

/-- R122, R123: a monitor record. -/
structure Monitor where
  config : MonitorConfig
  state : MonitorState
  baseline : Bool
  previous : W32
  persistenceCount : Nat
  lastMeasured : W32
  conditionGone : Bool
  /-- The end of the running period, a reading of the seconds count. -/
  nextSample : Option Nat
  deriving DecidableEq, Repr

/-! ## Fault Report Queue -/

/-- R142: the report kinds. -/
inductive ReportKind where
  | restart
  | monitorFired
  | monitorCleared
  | keyExhausted
  | wrapReject
  | stationClash
  | trunkClock
  deriving DecidableEq, Repr

/-- R141: where a fault happened. -/
inductive ReportSource where
  | absent
  | monitor (m : MonitorId)
  | association (a : AssocId)
  deriving DecidableEq, Repr

/-- R141. -/
inductive ReportState where
  | unsent
  | inFlight
  deriving DecidableEq, Repr

/-- What a block hands to the Fault Report Queue (R142). -/
structure Report where
  kind : ReportKind
  severity : Byte
  source : ReportSource
  value : Option W32
  deriving DecidableEq, Repr

/-- R141: a report record. -/
structure ReportRecord where
  number : W16
  kind : ReportKind
  severity : Byte
  source : ReportSource
  firstTime : W32
  lastTime : W32
  occurrences : W16
  value : Option W32
  state : ReportState
  /-- A reading of the millisecond count. -/
  ackDeadline : Option Nat
  resendCount : Byte
  deriving DecidableEq, Repr

/-- R141: the Fault Report Queue; its records are in age order, oldest first. -/
structure ReportQueue where
  records : List ReportRecord
  nextNumber : W16
  dropped : Byte
  pacingDeadline : Option Nat
  retryDeadline : Option Nat
  deriving DecidableEq, Repr

/-! ## Management Unit, Time Base, Provisioning Store -/

/-- R157: a message of the Control Inbox. -/
structure ControlMessage where
  octets : List Byte
  via : Carrier
  deriving DecidableEq, Repr

/-- R170: the Settings record. -/
structure Settings where
  burstLimit : Byte
  ackTimeout : Byte
  reportPacing : Byte
  deriving DecidableEq, Repr

/-- R157 to R170: the Management Unit. -/
structure Management where
  inbox : List ControlMessage
  answerOutstanding : Bool
  /-- The service state: `true` is ON (R167). -/
  serviceOn : Bool
  settings : Settings
  /-- The pending restart: the millisecond count at the RESTART's taking (R168). -/
  restartTakenAt : Option Nat
  deriving DecidableEq, Repr

/-- R171: the two counts of the Time Base. -/
structure TimeBase where
  milliseconds : Nat
  seconds : W32
  /-- Another event of the present Time Base second came first, and the Association Store has yet to take that second as
  its own event (R124, R171; log entry 35). -/
  storeWaits : Bool
  deriving DecidableEq, Repr

/-- R175, R176: what the part keeps through every reset. -/
structure Provisioning where
  serial : W48
  provisioningKey : Key
  epoch : W16
  revision : Byte
  deriving DecidableEq, Repr

/-- R173: the causes of a reset. -/
inductive ResetCause where
  | power
  | brownout
  | pin
  | soft
  deriving DecidableEq, Repr

/-- R176: what a start-up fixes until the next reset. -/
structure Identity where
  station : BitVec 3
  cause : ResetCause
  deriving DecidableEq, Repr

/-- R173: whether the part runs, the reset conditions present, and the cause the next start-up records. -/
structure PowerState where
  running : Bool
  powerPresent : Bool
  brownoutPresent : Bool
  pinPresent : Bool
  cause : ResetCause
  deriving DecidableEq, Repr

end Sys2Proof.Machine
end

