-- ==== Sys2Proof/Machine/Operands.lean ====
section
/-! DEFINITION. The operand forms of the part: octet order (R177), the codes of the enumerated values (R179), the
layouts a control message is read by and an answer is built by (11_formats_at_the_line), and the messages the
management commands spell. -/

namespace Sys2Proof.Machine

/-! ## Octet order -/

/-- R177: an octet string as one number, its first octet most significant. -/
def beNat (l : List Byte) : Nat := l.foldl (fun n o => n * 256 + o.toNat) 0

/-- R177: the low `n` octets of a number, most significant first. -/
def beOctets (n v : Nat) : List Byte := (List.range n).map (fun i => BitVec.ofNat 8 (v / 256 ^ (n - 1 - i)))

/-- R177: a number carried in `n` octets. -/
def word (n : Nat) {w : Nat} (x : BitVec w) : List Byte := beOctets n x.toNat

/-- R159: an octet of a message, 0 where it is missing. -/
def octetAt (l : List Byte) (i : Nat) : Byte := (l[i]?).getD 0

/-- A `2`-octet field. -/
def word16At (l : List Byte) (i : Nat) : W16 := octetAt l i ++ octetAt l (i + 1)

/-- A `4`-octet field. -/
def word32At (l : List Byte) (i : Nat) : W32 := word16At l i ++ word16At l (i + 2)

/-- A `6`-octet field. -/
def word48At (l : List Byte) (i : Nat) : W48 := word16At l i ++ word32At l (i + 2)

/-- R178: a flag octet as the part sends it. -/
def flagOctet (b : Bool) : Byte := if b then 1 else 0

/-- R178: a flag octet as the part takes it. -/
def flagOf (o : Byte) : Bool := o != 0

/-! ## Codes of the enumerated values (R179) -/

/-- R179. -/
def AssocState.code : AssocState → Byte
  | .vacant => 0 | .pending => 1 | .live => 2 | .suspended => 3 | .closing => 4

/-- R179. -/
def Direction.code : Direction → Byte
  | .both => 0 | .outbound => 1 | .inbound => 2

/-- R179. -/
def Direction.ofCode (o : Byte) : Option Direction :=
  if o = 0 then some .both else if o = 1 then some .outbound else if o = 2 then some .inbound else none

/-- R179. -/
def TrafficClass.code : TrafficClass → Byte
  | .control => 0 | .urgent => 1 | .bulk => 2

/-- R179. -/
def TrafficClass.ofCode (o : Byte) : Option TrafficClass :=
  if o = 0 then some .control else if o = 1 then some .urgent else if o = 2 then some .bulk else none

/-- R179. -/
def BankState.code : BankState → Byte
  | .empty => 0 | .fresh => 1 | .active => 2 | .draining => 3 | .retiring => 4

/-- R179: the outbound bank selector. -/
def selectorCode : BankId → Byte
  | .bankA => 0 | .bankB => 1

/-- R179: the place of a counter among the association items. -/
def AssocCounter.index : AssocCounter → Fin 8
  | .enciphered => 0 | .deciphered => 1 | .tagFail => 2 | .replay => 3
  | .staleGen => 4 | .exhaustDrop => 5 | .stateDrop => 6 | .queueDrop => 7

/-- R179: the place of a counter among the station items. -/
def StationCounter.index : StationCounter → Fin 15
  | .shopBad => 0 | .unmatched => 1 | .serviceDrop => 2 | .crcBad => 3 | .malformed => 4
  | .misaddressed => 5 | .claimLoss => 6 | .clash => 7 | .paceAbort => 8 | .clockLoss => 9
  | .responseDrop => 10 | .inboxDrop => 11 | .reportDrop => 12 | .deliveryDrop => 13 | .wrapReject => 14

/-- The association items in the order of their codes, 0 to 9 (R179). -/
def assocItems : List AssocItem :=
  [.counter .enciphered, .counter .deciphered, .counter .tagFail, .counter .replay, .counter .staleGen,
   .counter .exhaustDrop, .counter .stateDrop, .counter .queueDrop, .quiet, .wearPct]

/-- The station items in the order of their codes, 0 to 14 (R179). -/
def stationItems : List StationCounter :=
  [.shopBad, .unmatched, .serviceDrop, .crcBad, .malformed, .misaddressed, .claimLoss, .clash, .paceAbort,
   .clockLoss, .responseDrop, .inboxDrop, .reportDrop, .deliveryDrop, .wrapReject]

/-- R179. -/
def AssocItem.code : AssocItem → Byte
  | .counter c => BitVec.ofNat 8 c.index.val
  | .quiet => 8
  | .wearPct => 9

/-- R179: scope 0 is ASSOCIATION and scope 1 is STATION. -/
def SourceItem.ofCodes (scope item : Byte) : Option SourceItem :=
  if scope = 0 then (assocItems[item.toNat]?).map .association
  else if scope = 1 then (stationItems[item.toNat]?).map .station
  else none

/-- R179. -/
def SourceItem.scopeCode : SourceItem → Byte
  | .association _ => 0 | .station _ => 1

/-- R179. -/
def SourceItem.itemCode : SourceItem → Byte
  | .association i => i.code
  | .station c => BitVec.ofNat 8 c.index.val

/-- R179. -/
def MonitorMode.code : MonitorMode → Byte
  | .level => 0 | .delta => 1 | .rate => 2

/-- R179. -/
def MonitorMode.ofCode (o : Byte) : Option MonitorMode :=
  if o = 0 then some .level else if o = 1 then some .delta else if o = 2 then some .rate else none

/-- R179. -/
def Sense.code : Sense → Byte
  | .rise => 0 | .fall => 1

/-- R179. -/
def Sense.ofCode (o : Byte) : Option Sense :=
  if o = 0 then some .rise else if o = 1 then some .fall else none

/-- R179. -/
def Latch.code : Latch → Byte
  | .none => 0 | .hold => 1

/-- R179. -/
def Latch.ofCode (o : Byte) : Option Latch :=
  if o = 0 then some .none else if o = 1 then some .hold else none

/-- R179. -/
def MonitorAction.code : MonitorAction → Byte
  | .note => 0 | .renew => 1 | .suspend => 2

/-- R179. -/
def MonitorAction.ofCode (o : Byte) : Option MonitorAction :=
  if o = 0 then some .note else if o = 1 then some .renew else if o = 2 then some .suspend else none

/-- R179. -/
def MonitorState.code : MonitorState → Byte
  | .off => 0 | .inhibited => 1 | .arming => 2 | .clear => 3 | .pending => 4 | .fired => 5

/-- R179. -/
def ReportKind.code : ReportKind → Byte
  | .restart => 1 | .monitorFired => 2 | .monitorCleared => 3 | .keyExhausted => 4
  | .wrapReject => 5 | .stationClash => 6 | .trunkClock => 7

/-- R179. -/
def ReportState.code : ReportState → Byte
  | .unsent => 0 | .inFlight => 1

/-- R179: an absent source is carried as 0xFF. -/
def ReportSource.code : ReportSource → Byte
  | .absent => 0xFF
  | .monitor m => BitVec.ofNat 8 m.val
  | .association a => BitVec.ofNat 8 a.val

/-- R179. -/
def ResetCause.code : ResetCause → Byte
  | .power => 0 | .brownout => 1 | .pin => 2 | .soft => 3

/-- R173: the cause that an outside reset condition records. -/
def causeOf : ResetCondition → ResetCause
  | .power => .power | .brownout => .brownout | .pin => .pin

/-! ## Control messages (R159, R160, R180) -/

/-- R159: the kinds head office may send. -/
inductive MessageKind where
  | echo
  | tableRead
  | tableWrite
  | assocOpen
  | assocClose
  | assocResume
  | keyOffer
  | keySwitch
  | keyWithdraw
  | monitorClear
  | reportAck
  | serviceSet
  | restart
  deriving DecidableEq, Repr

/-- The kind codes of the table of message kinds (09_in_band_management, "The message kinds"). -/
def MessageKind.code : MessageKind → Byte
  | .echo => 0x01 | .tableRead => 0x02 | .tableWrite => 0x03
  | .assocOpen => 0x10 | .assocClose => 0x11 | .assocResume => 0x12
  | .keyOffer => 0x20 | .keySwitch => 0x21 | .keyWithdraw => 0x22
  | .monitorClear => 0x30 | .reportAck => 0x31 | .serviceSet => 0x38 | .restart => 0x3F

/-- Every kind head office may send. -/
def messageKinds : List MessageKind :=
  [.echo, .tableRead, .tableWrite, .assocOpen, .assocClose, .assocResume, .keyOffer, .keySwitch, .keyWithdraw,
   .monitorClear, .reportAck, .serviceSet, .restart]

/-- R159 check 2: the kind a code names, none for every other code. -/
def MessageKind.ofCode (o : Byte) : Option MessageKind := messageKinds.find? (fun k => k.code == o)

/-- R159: the completion codes. -/
inductive Completion where
  | done
  | badKind
  | badIndex
  | badValue
  | busy
  | refused
  | badLength
  deriving DecidableEq, Repr

/-- R159. -/
def Completion.code : Completion → Byte
  | .done => 0 | .badKind => 1 | .badIndex => 2 | .badValue => 3 | .busy => 4 | .refused => 5 | .badLength => 6

/-- The octets of a control message: kind, tag, body length, body (11_formats_at_the_line). -/
def messageOctets (kind tag : Byte) (body : List Byte) : List Byte :=
  [kind, tag] ++ beOctets 2 body.length ++ body

/-- R180: the octets of an answer: kind plus 0x80 modulo 256, tag, body length, completion code, body. -/
def answerOctets (kind tag : Byte) (code : Completion) (body : List Byte) : List Byte :=
  [kind + 0x80, tag] ++ beOctets 2 body.length ++ [code.code] ++ body

/-- The body of an answer to a key message: association, reserved, generation (R100). -/
def keyAnswerBody (assoc : Byte) (generation : W16) : List Byte := [assoc, 0] ++ word 2 generation

/-- The kinds whose answers name association and generation whatever the code (R160). -/
def isKeyKind (kind : Byte) : Bool :=
  kind == MessageKind.keyOffer.code || kind == MessageKind.keySwitch.code || kind == MessageKind.keyWithdraw.code

/-- R160: the body of an answer with a code other than DONE. -/
def rejectionBody (octets : List Byte) : List Byte :=
  if isKeyKind (octetAt octets 0) then keyAnswerBody (octetAt octets 4) (word16At octets 6) else []

/-- R159 check 4: whether a kind allows a body of `n` octets. -/
def MessageKind.allowsLength (k : MessageKind) (n : Nat) : Bool :=
  match k with
  | .echo => decide (n ≤ 64)
  | .tableRead => n == 4
  | .tableWrite => decide (4 ≤ n)
  | .assocOpen => n == 1
  | .assocClose => n == 1
  | .assocResume => n == 1
  | .keyOffer => n == 44
  | .keySwitch => n == 4
  | .keyWithdraw => n == 4
  | .monitorClear => n == 1
  | .reportAck => decide (2 ≤ n) && decide (n ≤ 16) && n % 2 == 0
  | .serviceSet => n == 1
  | .restart => n == 0

/-- The body of a TABLE_WRITE: table identifier, first index, count, reserved, entries. -/
def tableWriteBody (table first count : Byte) (entries : List Byte) : List Byte :=
  [table, first, count, 0] ++ entries

/-! ## The messages the management commands spell -/

/-- ECHO (R161). -/
def echoMessage (via : Carrier) (tag : Byte) (body : List Byte) : ControlMessage :=
  { octets := messageOctets MessageKind.echo.code tag body, via := via }

/-- TABLE_READ (R162). -/
def tableReadMessage (via : Carrier) (tag table first count : Byte) : ControlMessage :=
  { octets := messageOctets MessageKind.tableRead.code tag [table, first, count, 0], via := via }

/-- TABLE_WRITE (R163). -/
def tableWriteMessage (via : Carrier) (tag table first count : Byte) (entries : List Byte) : ControlMessage :=
  { octets := messageOctets MessageKind.tableWrite.code tag (tableWriteBody table first count entries), via := via }

/-- A message whose body is one octet: ASSOC_OPEN, ASSOC_CLOSE, ASSOC_RESUME, MONITOR_CLEAR, SERVICE_SET. -/
def oneOctetMessage (kind : MessageKind) (via : Carrier) (tag value : Byte) : ControlMessage :=
  { octets := messageOctets kind.code tag [value], via := via }

/-- KEY_OFFER (R101): association, reserved, generation, wrapped key, wrap check. -/
def keyOfferMessage (via : Carrier) (tag assoc : Byte) (generation : W16) (wrapped : Key) (wrapCheck : BitVec 64) :
    ControlMessage :=
  { octets := messageOctets MessageKind.keyOffer.code tag
      ([assoc, 0] ++ word 2 generation ++ word 32 wrapped ++ word 8 wrapCheck), via := via }

/-- KEY_SWITCH and KEY_WITHDRAW (R106, R109): association, reserved, generation. -/
def keyMessage (kind : MessageKind) (via : Carrier) (tag assoc : Byte) (generation : W16) : ControlMessage :=
  { octets := messageOctets kind.code tag (keyAnswerBody assoc generation), via := via }

/-- REPORT_ACK (R166): the report numbers, 2 octets each. -/
def reportAckMessage (via : Carrier) (tag : Byte) (numbers : List W16) : ControlMessage :=
  { octets := messageOctets MessageKind.reportAck.code tag (numbers.flatMap (word 2)), via := via }

/-- RESTART (R168). -/
def restartMessage (via : Carrier) (tag : Byte) : ControlMessage :=
  { octets := messageOctets MessageKind.restart.code tag [], via := via }

/-- The control message a command spells, none for a command that is no message. -/
def messageOf : Instr → Option ControlMessage
  | .shopFrameArrival _ _ => none
  | .shopTransmitStart => none
  | .shopTransmissionEnd _ => none
  | .trunkFramingDrop _ => none
  | .trunkFrameArrival => none
  | .outboundCompletion => none
  | .inboundCompletion => none
  | .unwrapCompletion => none
  | .controlMessageInvalid via octets => some { octets := octets, via := via }
  | .echo via tag body => some (echoMessage via tag body)
  | .tableRead via tag table first count => some (tableReadMessage via tag table first count)
  | .tableWriteFlow via tag first count entries => some (tableWriteMessage via tag 1 first count entries)
  | .tableWriteAssocConfig via tag first count entries => some (tableWriteMessage via tag 2 first count entries)
  | .tableWriteMonitor via tag first count entries => some (tableWriteMessage via tag 4 first count entries)
  | .tableWriteSettings via tag first count entries => some (tableWriteMessage via tag 6 first count entries)
  | .assocOpen via tag assoc => some (oneOctetMessage .assocOpen via tag assoc)
  | .assocClose via tag assoc => some (oneOctetMessage .assocClose via tag assoc)
  | .assocResume via tag assoc => some (oneOctetMessage .assocResume via tag assoc)
  | .keyOffer via tag assoc generation wrapped wrapCheck =>
    some (keyOfferMessage via tag assoc generation wrapped wrapCheck)
  | .keySwitch via tag assoc generation => some (keyMessage .keySwitch via tag assoc generation)
  | .keyWithdraw via tag assoc generation => some (keyMessage .keyWithdraw via tag assoc generation)
  | .monitorClear via tag monitor => some (oneOctetMessage .monitorClear via tag monitor)
  | .reportAck via tag numbers => some (reportAckMessage via tag numbers)
  | .serviceSet via tag value => some (oneOctetMessage .serviceSet via tag value)
  | .restart via tag => some (restartMessage via tag)
  | .restartLimitExpiry => none
  | .resetCondition _ _ => none
  | .startUp _ _ _ => none
  | .timeBaseSecond => none
  | .drainDeadlineExpiry _ _ => none
  | .renewRequestTimerExpiry _ => none
  | .startupInhibitExpiry _ => none
  | .monitorSample _ => none
  | .ackDeadlineExpiry _ => none
  | .pacingTimerExpiry => none
  | .retryTimerExpiry => none
  | .lineQuiet => none
  | .openGap => none
  | .claimByOtherStation => none
  | .lineWatchGuard _ => none
  | .claimStart _ => none
  | .claimLost _ => none
  | .claimWon => none
  | .frameSent => none
  | .clash => none
  | .burstRelease => none
  | .standoffExpiry => none
  | .paceHold _ => none
  | .paceGo => none
  | .trunkClockLoss => none
  | .trunkClockReturn => none
  | .huntDelimiterFound => none
  | .trunkReceiveOctet _ => none
  | .busyPeriodEnd => none
  | .lineWatchOctet _ => none
  | .tableWriteBadTable via tag table first count entries => some (tableWriteMessage via tag table first count entries)

end Sys2Proof.Machine
end

