-- ==== Sys2Proof/Machine/Checks.lean ====
section
/-! DEFINITION. The two checks at the lines: the 32-bit shop frame check (R24) and the 16-bit trunk check (R66), and the
stuffing of a trunk frame (R64). -/

namespace Sys2Proof.Machine

/-- One bit into the register of R24: the generator is taken in when the bit and the register's x^31 differ. -/
def frameCheckBit (r : W32) (b : Bool) : W32 :=
  if Bool.xor r.msb b then (r <<< 1) ^^^ 0x04C11DB7 else r <<< 1

/-- R24: one octet, least significant bit first. -/
def frameCheckOctet (r : W32) (o : Byte) : W32 :=
  (List.range 8).foldl (fun r i => frameCheckBit r (o.getLsbD i)) r

/-- R24: the complemented register over all octets. -/
def frameCheck (l : List Byte) : W32 := ~~~ (l.foldl frameCheckOctet 0xFFFFFFFF)

/-- R24: the 4 result octets, the coefficient of x^31 first on a line that carries each octet least significant bit
first. Log entry 5. -/
def frameCheckOctets (l : List Byte) : List Byte :=
  (List.range 4).map (fun k => (frameCheck l).reverse.extractLsb' (8 * k) 8)

/-- One bit into the register of R66. -/
def trunkCheckBit (r : W16) (b : Bool) : W16 :=
  if Bool.xor r.msb b then (r <<< 1) ^^^ 0x1021 else r <<< 1

/-- R66: one octet, most significant bit first. -/
def trunkCheckOctet (r : W16) (o : Byte) : W16 :=
  (List.range 8).foldl (fun r i => trunkCheckBit r (o.getMsbD i)) r

/-- R66: the complemented register. -/
def trunkCheck (l : List Byte) : W16 := ~~~ (l.foldl trunkCheckOctet 0xFFFF)

/-- R66: the 2 check octets, the octet of x^15 first. -/
def trunkCheckOctets (l : List Byte) : List Byte := word 2 (trunkCheck l)

/-- The delimiter octet (R64). -/
def delimiter : Byte := 0xC9
/-- The escape octet (R64). -/
def escapeOctet : Byte := 0xCA

/-- R64: an octet as it is sent inside a frame. -/
def stuffOctet (o : Byte) : List Byte :=
  if o = delimiter ∨ o = escapeOctet then [escapeOctet, o ^^^ 0x10] else [o]

/-- R64: the contents stuffed. -/
def stuff (l : List Byte) : List Byte := l.flatMap stuffOctet

/-- R65: the abort sequence. -/
def abortSequence : List Byte := [escapeOctet, delimiter]

/-- R64: the contents of a sealed frame: header, ciphertext, tag and the check over them. -/
def SealedFrame.contents (f : SealedFrame) : List Byte :=
  let covered := f.header ++ f.ciphertext ++ f.tag
  covered ++ trunkCheckOctets covered

/-- R64, R88: the octets driven for a frame: an opening delimiter for the first frame of a burst, the stuffed contents
and the closing delimiter. -/
def SealedFrame.lineOctets (f : SealedFrame) (first : Bool) : List Byte :=
  (if first then [delimiter] else []) ++ stuff f.contents ++ [delimiter]

/-- R36: the octets sent to the shop for a plaintext: zero octets up to 60, and a fresh frame check. -/
def shopFrameOctets (plaintext : List Byte) : List Byte :=
  let covered := plaintext ++ List.replicate (60 - plaintext.length) 0
  covered ++ frameCheckOctets covered

end Sys2Proof.Machine
end

