-- ==== Sys2Proof/Config.lean ====
section
/-! DEFINITION. What one part fixes and the spec leaves open: the given permutation E (00_scope), the identity written
at manufacture (R176), and the free choices the spec leaves between two orders inside one event. None has a body:
nothing can be proved of their values. -/

namespace Sys2Proof.Config

/-- The block permutation E(K, x) of the cipher: "a given function" whose internals the spec does not give (00_scope,
"Scope"). FREE: log entry 1. -/
opaque permutation : Key → Block → Block

/-- The serial identity the Provisioning Store is given at manufacture (R176). FREE: log entry 2. -/
opaque serial : W48

/-- The provisioning key the part is given at manufacture (R9). FREE: log entry 2. -/
opaque provisioningKey : Key

/-- The revision less one, so that the revision is 1 to 255 (R176). FREE: log entry 2. -/
opaque revisionLessOne : Fin 255

/-- The part's revision number, 1 to 255 (R176). -/
def revision : Byte := BitVec.ofNat 8 (revisionLessOne.val + 1)

/-- The free choice between two orders which the spec leaves open, indexed by a counter of the state: `true` takes the
first of the two orders named where it is used. FREE: log entry 3. -/
opaque firstOrder : Nat → Bool

/-- Which of several timers that are due expires first in a step with no command waiting, indexed by the same counter: the
spec gives timers that expire at one increase no order (R172). FREE: log entry 11. -/
opaque firstExpiry : Nat → Nat

end Sys2Proof.Config
end

