-- ==== Sys2Proof/Machine/Cipher.lean ====
section
/-! DEFINITION. The computations of the Cipher Engine over the given permutation E (R45 to R48) and the boot key (R9).
The block layouts are those of 11_formats_at_the_line, "Trunk frame and cipher blocks". -/

namespace Sys2Proof.Machine

/-- R45: the number of 16-octet blocks of a plaintext of `l` octets. -/
def blockCount (l : Nat) : Nat := (l + 15) / 16

/-- R45: the cost of a frame item of `l` plaintext octets. -/
def frameCost (l : Nat) : Nat := 2 * blockCount l + 2

/-- R45: the cost of an unwrap item. -/
def unwrapCost : Nat := 6

/-- R46: the direction octet of a frame the part sends. -/
def sentDirection : Byte := 0x0F
/-- R46: the direction octet of a frame the part receives. -/
def receivedDirection : Byte := 0xF0
/-- R46: the direction octet of a key unwrap. -/
def unwrapDirection : Byte := 0x5A

/-- The 16 octets of a block. -/
def blockOctets (b : Block) : List Byte := word 16 b

/-- A block from at most 16 octets, padded with zero octets (R47). -/
def blockOf (l : List Byte) : Block :=
  BitVec.ofNat 128 (beNat (l ++ List.replicate (16 - l.length) 0))

/-- Counter block `i` (R46). -/
def counterBlock (channel : AssocId) (direction : Byte) (generation : W16) (sequence : W32) (i : Nat) : Block :=
  BitVec.ofNat 8 channel.val ++ direction ++ generation ++ sequence ++ (0 : BitVec 48) ++ BitVec.ofNat 16 i

/-- R46: the keystream of `n` blocks. -/
def keystream (key : Key) (channel : AssocId) (direction : Byte) (generation : W16) (sequence : W32) (n : Nat) :
    List Byte :=
  (List.range n).flatMap
    (fun i => blockOctets (Config.permutation key (counterBlock channel direction generation sequence (i + 1))))

/-- R46: enciphering and deciphering, octet by octet; the result is exactly as long as the text. -/
def applyKeystream (key : Key) (channel : AssocId) (direction : Byte) (generation : W16) (sequence : W32)
    (text : List Byte) : List Byte :=
  List.zipWith (fun x k => x ^^^ k) text
    (keystream key channel direction generation sequence (blockCount text.length))

/-- R47: the ciphertext in blocks, the last padded with zero octets. -/
def textBlocks (text : List Byte) : List Block :=
  (List.range (blockCount text.length)).map (fun i => blockOf ((text.drop (16 * i)).take 16))

/-- R47: the length block. -/
def lengthBlock (l : Nat) : Block := BitVec.ofNat 16 l ++ (0 : BitVec 112)

/-- R47: the tag chain over a first block, the text blocks and the length block; its final block. -/
def chainBlock (key : Key) (first : Block) (text : List Block) (l : Nat) : Block :=
  Config.permutation key
    (text.foldl (fun c p => Config.permutation key (c ^^^ p)) (Config.permutation key first) ^^^ lengthBlock l)

/-- R47: the tag of a frame, the first 8 octets of the final block. -/
def frameTag (key : Key) (header ciphertext : List Byte) : List Byte :=
  (blockOctets (chainBlock key (blockOf header) (textBlocks ciphertext) ciphertext.length)).take 8

/-- R50: the 10 header octets of a frame the part sends: destination 12, own station, kind 0, channel, generation,
sequence, L. -/
def sentHeader (station : BitVec 3) (channel : AssocId) (generation : W16) (sequence : W32) (l : Nat) : List Byte :=
  [0xC0 ||| station.zeroExtend 8, BitVec.ofNat 8 channel.val] ++ word 2 generation ++ word 4 sequence ++ beOctets 2 l

/-- R46, R47, R50: a sealed frame. -/
def sealFrame (key : Key) (station : BitVec 3) (channel : AssocId) (generation : W16) (sequence : W32)
    (restartMark : Bool) (plaintext : List Byte) : SealedFrame :=
  let header := sentHeader station channel generation sequence plaintext.length
  let ciphertext := applyKeystream key channel sentDirection generation sequence plaintext
  { header := header, ciphertext := ciphertext, tag := frameTag key header ciphertext, restartMark := restartMark }

/-- R48: counter block `i` of an unwrap item. -/
def unwrapBlock (i : UnwrapItem) (index : Nat) : Block :=
  counterBlock i.target unwrapDirection i.generation i.sequence index

/-- R48: the unwrapped key. -/
def unwrappedKey (key : Key) (i : UnwrapItem) : Key :=
  i.wrapped ^^^ (Config.permutation key (unwrapBlock i 1) ++ Config.permutation key (unwrapBlock i 2))

/-- R48: the wrap header block. -/
def wrapHeaderBlock (i : UnwrapItem) : Block :=
  BitVec.ofNat 8 i.target.val ++ unwrapDirection ++ i.generation ++ i.sequence ++ (32 : BitVec 16) ++ (0 : BitVec 48)

/-- R48: whether the wrap check passes. -/
def wrapCheckPasses (key : Key) (i : UnwrapItem) : Bool :=
  (chainBlock key (wrapHeaderBlock i) [i.wrapped.extractLsb' 128 128, i.wrapped.extractLsb' 0 128] 32).extractLsb' 64 64
    == i.wrapCheck

/-- R9: the derivation block of a half-index. -/
def derivationBlock (serial : W48) (epoch : W16) (half : Byte) : Block :=
  serial ++ epoch ++ half ++ (0 : BitVec 56)

/-- R9: association 0's boot key. -/
def bootKey (p : Provisioning) (epoch : W16) : Key :=
  Config.permutation p.provisioningKey (derivationBlock p.serial epoch 0) ++
    Config.permutation p.provisioningKey (derivationBlock p.serial epoch 1)

end Sys2Proof.Machine
end

