-- ==== Sys2Proof/Machine/Defaults.lean ====
section
/-! DEFINITION. The state of every block after reset, as the spec gives it block by block. -/

namespace Sys2Proof.Machine

/-- R12: the contents of an EMPTY bank. -/
def emptyBank : Bank where
  state := .empty
  generation := 0
  key := 0
  wear := 0
  nextSequence := 1
  highest := 0
  seen := 0
  keyAge := 0
  exhausted := false
  inUse := 0
  drainDeadline := none

/-- R2: the default entry of ASSOC_CONFIG, of the given class. -/
def defaultPolicy (c : TrafficClass) : Policy where
  direction := .both
  trafficClass := c
  softLimit := 2147483648
  hardLimit := 4294967295
  maxKeyAge := 0
  drainPeriod := 20
  renewInterval := 60

/-- R2: the class of an association's record and entry after reset. -/
def defaultClass (a : AssocId) : TrafficClass := if a = 0 then .control else .bulk

/-- R2, R3, R12, R19, R21, R99: an association after reset, VACANT. Start-up makes association 0 LIVE or PENDING
(R174 step 4). DESIGN CHOICE: the outbound bank selector is A; the rules give it that value only at ASSOC_OPEN (R4), at the
VACANT transition (R6), at an installation (R105) and for the LIVE association 0 of start-up (R9): log entry 39. -/
def defaultAssoc (a : AssocId) : Assoc where
  state := .vacant
  direction := .both
  trafficClass := defaultClass a
  policy := defaultPolicy (defaultClass a)
  selector := .bankA
  bankA := emptyBank
  bankB := emptyBank
  inFlight := 0
  transaction := none
  monitorRenewal := false
  counters := Vector.replicate 8 0
  quiet := 0
  renewDeadline := none

/-- R27: a Flow Table entry after reset; 0xF000 is lane match ANY and action 0 is DISCARD (R179). The ethertype and the
destination address held while their given flags are no are DESIGN CHOICE 0: log entry 31. -/
def defaultFlowEntry : FlowEntry where
  valid := false
  action := 0
  association := 1
  ethertypeGiven := false
  laneMatch := 0xF000
  ethertype := 0
  destinationGiven := false
  destination := 0
  hits := 0

/-- R122: a monitor's configuration after reset. The association number kept under the reset source, a station counter, is
DESIGN CHOICE 0: log entry 31. -/
def defaultMonitorConfig : MonitorConfig where
  enable := false
  source := .station .shopBad
  sourceAssoc := 0
  mode := .level
  sense := .rise
  period := 1
  setLevel := 1
  clearLevel := 0
  persistence := 1
  latch := .none
  startupInhibit := 0
  severity := 1
  action := .note
  target := 0

/-- R123: a monitor after reset. -/
def defaultMonitor : Monitor where
  config := defaultMonitorConfig
  state := .off
  baseline := false
  previous := 0
  persistenceCount := 0
  lastMeasured := 0
  conditionGone := false
  nextSample := none

/-- R170: the Settings record after reset. -/
def defaultSettings : Settings where
  burstLimit := 4
  ackTimeout := 20
  reportPacing := 10

/-- R37: the Shop Port after reset, its ready input as it stands. -/
def defaultShopPort (macReady : Bool) : ShopPort where
  receive := []
  transmit := .idle
  delivery := []
  macReady := macReady

/-- R61: the engine after reset. -/
def defaultEngine : Engine where
  outbound := []
  inbound := []
  unwrap := []
  current := none
  lastServed := .outbound

/-- R79: all 32 places free. -/
def defaultSendQueue : SendQueue where
  control := []
  urgent := []
  bulk := []
  reserved := []

/-- R98: the Trunk Access Controller after reset, its PACE input as it stands. The clock-loss measure expires 1 ms
after start-up when no edge comes. No rule gives the octet count of the line watch after reset: DESIGN CHOICE 0 (log entry
20). -/
def defaultAccess (pace : Pace) : Access where
  state := .listen
  watch := .rest
  idleCount := 0
  stationBits := 0
  octetCount := 0
  clashes := 0
  openGaps := 0
  pace := pace
  sentInBurst := 0
  transmission := .none
  standoffDeadline := none
  clockDeadline := some 1

/-- R78: the Trunk Receiver after reset. -/
def defaultReceiver : Receiver where
  state := .hunt
  staging := []

/-- R156: the Fault Report Queue after reset. -/
def defaultReports : ReportQueue where
  records := []
  nextNumber := 1
  dropped := 0
  pacingDeadline := none
  retryDeadline := none

/-- R169: the Management Unit after reset. -/
def defaultManagement : Management where
  inbox := []
  answerOutstanding := false
  serviceOn := false
  settings := defaultSettings
  restartTakenAt := none

/-- R175, R176: the Provisioning Store as the part leaves manufacture. -/
def manufacturedStore : Provisioning where
  serial := Config.serial
  provisioningKey := Config.provisioningKey
  epoch := 0
  revision := Config.revision

end Sys2Proof.Machine
end

