-- ==== Sys2Proof/Machine/State.lean ====
section
/-! DEFINITION. The state of the LC-32: every register, table, queue, timer and pin the spec gives the part, the queue
of commands that wait, and the state right after power-on reset. -/

namespace Sys2Proof.Machine

/-- The state of the part. Plain data; `pending` is the queue of waiting commands and `free` the model's own counter
that indexes the free choices of Config. -/
structure State where
  /-- The commands that wait, first in, first out. The model's own. -/
  pending : List Instr
  /-- The index of the next free choice. The model's own (log entry 3). -/
  free : Nat
  power : PowerState
  time : TimeBase
  provisioning : Provisioning
  identity : Identity
  assocs : Vector Assoc 32
  stationCounters : Vector W32 15
  shop : ShopPort
  flow : Vector FlowEntry 48
  engine : Engine
  sendQueue : SendQueue
  access : Access
  receiver : Receiver
  monitors : Vector Monitor 16
  reports : ReportQueue
  management : Management
  deriving DecidableEq, Repr

/-- Why the part stops. No rule of the spec stops the part: no meaning raises a fault. -/
inductive Fault where
  /-- Raised by no meaning: the spec describes no event after which the part stops. Safe. -/
  | stopped
  deriving DecidableEq, Repr

/-- Why a command has no meaning. -/
inductive Refusal where
  /-- Raised by an arm of `exec` whose command has no meaning yet. Safe. -/
  | notModelled (mnemonic : String)
  deriving DecidableEq, Repr

/-- The part right after a power-on reset, before its first start-up: the POWER condition has just ended, every block
is in its state after reset (R173), and START_UP is what comes next. Log entry 4. -/
def State.reset : State where
  pending := []
  free := 0
  power := { running := false, powerPresent := false, brownoutPresent := false, pinPresent := false, cause := .power }
  time := { milliseconds := 0, seconds := 0, storeWaits := false }
  provisioning := manufacturedStore
  identity := { station := 0, cause := .power }
  assocs := Vector.ofFn defaultAssoc
  stationCounters := Vector.replicate 15 0
  shop := defaultShopPort false
  flow := Vector.replicate 48 defaultFlowEntry
  engine := defaultEngine
  sendQueue := defaultSendQueue
  access := defaultAccess .go
  receiver := defaultReceiver
  monitors := Vector.replicate 16 defaultMonitor
  reports := defaultReports
  management := defaultManagement

end Sys2Proof.Machine
end

