-- ==== Sys2Proof/Machine/Ops.lean ====
section
/-! DEFINITION. The shared operations over the state: counters that saturate, association and bank records, the work
queues, the places of the Trunk Send Queue, the Control Inbox, the Time Base. -/

namespace Sys2Proof.Machine

/-! ## Arithmetic that saturates -/

/-- R19: one more, stopping at the maximum. -/
def satInc {n : Nat} (x : BitVec n) : BitVec n := if x = BitVec.allOnes n then x else x + 1

/-- A sum that stops at the maximum (R151). -/
def satAdd {n : Nat} (x y : BitVec n) : BitVec n :=
  if x.toNat + y.toNat < 2 ^ n then x + y else BitVec.allOnes n

/-! ## Field updates of the state -/

/-- The association record. -/
def State.assoc (s : State) (a : AssocId) : Assoc := s.assocs[a]

/-- Writes an association record. -/
def State.setAssoc (s : State) (a : AssocId) (r : Assoc) : State := { s with assocs := s.assocs.set a r }

/-- Changes an association record. -/
def State.modAssoc (s : State) (a : AssocId) (f : Assoc → Assoc) : State := s.setAssoc a (f (s.assoc a))

/-- Changes the engine. -/
def State.modEngine (s : State) (f : Engine → Engine) : State := { s with engine := f s.engine }

/-- Changes the Trunk Send Queue. -/
def State.modSendQueue (s : State) (f : SendQueue → SendQueue) : State := { s with sendQueue := f s.sendQueue }

/-- Changes the Trunk Access Controller. -/
def State.modAccess (s : State) (f : Access → Access) : State := { s with access := f s.access }

/-- Changes the Trunk Receiver. -/
def State.modReceiver (s : State) (f : Receiver → Receiver) : State := { s with receiver := f s.receiver }

/-- Changes the Shop Port. -/
def State.modShop (s : State) (f : ShopPort → ShopPort) : State := { s with shop := f s.shop }

/-- Changes the Fault Report Queue. -/
def State.modReports (s : State) (f : ReportQueue → ReportQueue) : State := { s with reports := f s.reports }

/-- Changes the Management Unit. -/
def State.modManagement (s : State) (f : Management → Management) : State := { s with management := f s.management }

/-- The monitor record. -/
def State.monitor (s : State) (m : MonitorId) : Monitor := s.monitors[m]

/-- Writes a monitor record. -/
def State.setMonitor (s : State) (m : MonitorId) (r : Monitor) : State := { s with monitors := s.monitors.set m r }

/-- The Flow Table entry at a position. -/
def State.flowEntry (s : State) (p : Fin 48) : FlowEntry := s.flow[p]

/-- Writes a Flow Table entry. -/
def State.setFlow (s : State) (p : Fin 48) (e : FlowEntry) : State := { s with flow := s.flow.set p e }

/-- Uses up one free choice (log entry 3). -/
def State.spendChoice (s : State) : State := { s with free := s.free + 1 }

/-- The free choice that comes next (log entry 3). -/
def State.choice (s : State) : Bool := Config.firstOrder s.free

/-! ## Time Base (R171, R172) -/

/-- The seconds count as a number. -/
def State.now (s : State) : Nat := s.time.seconds.toNat

/-- R95, R172: the clock-loss measure when time comes to a reading of the millisecond count with no loss detected before:
an edge has restarted it where it would have expired (log entry 6). -/
def Access.atTime (x : Access) (t : Nat) : Access :=
  { x with clockDeadline := x.clockDeadline.map (fun d => if d < t then t + 1 else d) }

/-- R171: the Time Base's counts come to two readings. -/
def State.setTime (s : State) (milliseconds : Nat) (seconds : W32) : State :=
  { s with
    time := { s.time with milliseconds := milliseconds, seconds := seconds }
    access := s.access.atTime milliseconds }

/-- R171: whether the Association Store has the present Time Base second still to take (log entry 35). -/
def State.setStoreWaits (s : State) (b : Bool) : State := { s with time := { s.time with storeWaits := b } }

/-- R171: the seconds count increases, the millisecond count being at the multiple of 1000. The Association Store has yet to
take the second (log entry 35). -/
def State.newSecond (s : State) : State :=
  (s.setTime (max s.time.milliseconds (1000 * (s.now + 1))) (s.time.seconds + 1)).setStoreWaits true

/-- R171: time has come to a reading of the millisecond count, and at a multiple of 1000 the seconds count increases with it:
a timer of the millisecond count expires (log entry 6). -/
def State.reach (s : State) (t : Nat) : State :=
  if s.time.milliseconds < t ∧ 1000 * (s.now + 1) ≤ t ∧ s.time.seconds ≠ 4294967295 then s.newSecond
  else s.setTime (max s.time.milliseconds t) s.time.seconds

/-! ## Counters (R19, R20) -/

/-- An association counter. -/
def State.assocCount (s : State) (a : AssocId) (c : AssocCounter) : W32 := (s.assoc a).counters[c.index]

/-- R19: counts an event on an association. -/
def State.countAssoc (s : State) (a : AssocId) (c : AssocCounter) : State :=
  s.modAssoc a (fun r => { r with counters := r.counters.set c.index (satInc r.counters[c.index]) })

/-- A station counter. -/
def State.stationCount (s : State) (c : StationCounter) : W32 := s.stationCounters[c.index]

/-- R20: counts an event of the station. -/
def State.countStation (s : State) (c : StationCounter) : State :=
  { s with stationCounters := s.stationCounters.set c.index (satInc s.stationCounters[c.index]) }

/-! ## Banks (R11 to R16) -/

/-- A bank of an association. -/
def Assoc.bank (r : Assoc) : BankId → Bank
  | .bankA => r.bankA
  | .bankB => r.bankB

/-- Writes a bank of an association. -/
def Assoc.setBank (r : Assoc) (b : BankId) (k : Bank) : Assoc :=
  match b with
  | .bankA => { r with bankA := k }
  | .bankB => { r with bankB := k }

/-- The bank that is not the given one. -/
def otherBank : BankId → BankId
  | .bankA => .bankB
  | .bankB => .bankA

/-- The bank of an association in a given state, bank A before bank B. -/
def Assoc.bankIn (r : Assoc) (st : BankState) : Option BankId :=
  if r.bankA.state = st then some .bankA else if r.bankB.state = st then some .bankB else none

/-- The ACTIVE bank (law 1: at most one). -/
def Assoc.activeBank (r : Assoc) : Option BankId := r.bankIn .active

/-- The FRESH bank (law 1: at most one). -/
def Assoc.freshBank (r : Assoc) : Option BankId := r.bankIn .fresh

/-- R13, R105: "the bank that is not ACTIVE". -/
def Assoc.spareBank (r : Assoc) : BankId := if r.bankA.state = .active then .bankB else .bankA

/-- A bank of the Association Store. -/
def State.bank (s : State) (a : AssocId) (b : BankId) : Bank := (s.assoc a).bank b

/-- Changes a bank. -/
def State.modBank (s : State) (a : AssocId) (b : BankId) (f : Bank → Bank) : State :=
  s.modAssoc a (fun r => r.setBank b (f (r.bank b)))

/-- R52, R58, R74: a bank usable for inbound work under generation `g`. -/
def Bank.usableFor (k : Bank) (g : W16) : Bool :=
  (k.state == .active || k.state == .fresh || k.state == .draining) && k.generation == g

/-- R18: whether a bank can bear a cost under a hard wear limit. -/
def Bank.bears (k : Bank) (w : Nat) (hard : W32) : Bool := decide (k.wear.toNat + w ≤ hard.toNat)

/-- R18, R16: charges an admitted item to its bank and binds it. -/
def Bank.charge (k : Bank) (w : Nat) : Bank :=
  { k with wear := k.wear + BitVec.ofNat 32 w, inUse := k.inUse + 1 }

/-- R15, R16: an item bound to the bank completes; a RETIRING bank with none left becomes EMPTY. -/
def Bank.release (k : Bank) : Bank :=
  if k.state = .retiring ∧ k.inUse ≤ 1 then emptyBank else { k with inUse := k.inUse - 1 }

/-- R13: the contents of a bank in which a key is installed. -/
def installedBank (st : BankState) (g : W16) (key : Key) : Bank :=
  { emptyBank with state := st, generation := g, key := key }

/-! ## The receive window (R54, R55, R75) -/

/-- R54: the replay decision. -/
def Bank.accepts (k : Bank) (s : W32) : Bool :=
  if k.highest.toNat < s.toNat then true
  else decide (k.highest.toNat - s.toNat < 64) && !k.seen.getLsbD (k.highest.toNat - s.toNat)

/-- R55: the window after an accept decision. -/
def Bank.mark (k : Bank) (s : W32) : Bank :=
  if k.highest.toNat < s.toNat then
    { k with highest := s, seen := (k.seen <<< (s.toNat - k.highest.toNat)) ||| 1 }
  else { k with seen := k.seen ||| ((1 : BitVec 64) <<< (k.highest.toNat - s.toNat)) }

/-! ## In-flight counts and the VACANT transition (R3, R6) -/

/-- R6: an association that becomes VACANT. -/
def Assoc.vacated (r : Assoc) : Assoc :=
  { r with
    state := .vacant
    selector := .bankA
    bankA := emptyBank
    bankB := emptyBank
    transaction := none
    monitorRenewal := false
    counters := Vector.replicate 8 0
    quiet := 0
    renewDeadline := none }

/-- R3: a CLOSING association with nothing in flight becomes VACANT. -/
def Assoc.settleClosing (r : Assoc) : Assoc :=
  if r.state = .closing ∧ r.inFlight = 0 then r.vacated else r

/-- R3: the end of a piece of engine work bound to an association. -/
def Assoc.landed (r : Assoc) : Assoc := { r with inFlight := r.inFlight - 1 }.settleClosing

/-- R51, R53, R56: the end of a frame item: the bank's in-use count falls, then the association's in-flight count. -/
def State.releaseItem (s : State) (a : AssocId) (b : BankId) : State :=
  s.modAssoc a (fun r => (r.setBank b (r.bank b).release).landed)

/-! ## Places of the Trunk Send Queue (R79, R80) -/

/-- R79: the places reserved or filled in all. -/
def SendQueue.taken (q : SendQueue) : Nat :=
  q.control.length + q.urgent.length + q.bulk.length + q.reserved.length

/-- R79: the places reserved or filled by URGENT and BULK together. -/
def SendQueue.takenTraffic (q : SendQueue) : Nat :=
  q.urgent.length + q.bulk.length + (q.reserved.filter (fun p => p.place != .control)).length

/-- R43, R79: a place is free for a class. -/
def SendQueue.placeFree (q : SendQueue) (c : TrafficClass) : Bool :=
  match c with
  | .control => decide (q.taken < 32)
  | .urgent => decide (q.taken < 32) && decide (q.takenTraffic < 28)
  | .bulk => decide (q.taken < 32) && decide (q.takenTraffic < 28)

/-- The filled places of a class, oldest first. -/
def SendQueue.filled (q : SendQueue) : TrafficClass → List SealedFrame
  | .control => q.control
  | .urgent => q.urgent
  | .bulk => q.bulk

/-- Writes the filled places of a class. -/
def SendQueue.setFilled (q : SendQueue) (c : TrafficClass) (l : List SealedFrame) : SendQueue :=
  match c with
  | .control => { q with control := l }
  | .urgent => { q with urgent := l }
  | .bulk => { q with bulk := l }

/-- R80: a place is reserved. -/
def SendQueue.reserve (q : SendQueue) (c : TrafficClass) (mark : Bool) : SendQueue :=
  { q with reserved := q.reserved ++ [{ place := c, restartMark := mark }] }

/-- R80: a reserved place of a class is freed. -/
def SendQueue.unreserve (q : SendQueue) (c : TrafficClass) : SendQueue :=
  { q with reserved := q.reserved.eraseP (fun p => p.place == c) }

/-- R80: a reserved place of a class is filled; the frame joins the class at the tail. A place is filled only where it
was reserved. -/
def SendQueue.fill (q : SendQueue) (c : TrafficClass) (f : SealedFrame) : SendQueue :=
  if q.reserved.any (fun p => p.place == c) then
    let r := q.unreserve c
    r.setFilled c (r.filled c ++ [f])
  else q

/-- R82: the frame at the head of a class leaves. -/
def SendQueue.leave (q : SendQueue) (c : TrafficClass) : SendQueue := q.setFilled c (q.filled c).tail

/-- R81: the class of the next frame to send, by strict class priority. -/
def SendQueue.nextClass (q : SendQueue) : Option TrafficClass :=
  if q.control ≠ [] then some .control
  else if q.urgent ≠ [] then some .urgent
  else if q.bulk ≠ [] then some .bulk
  else none

/-! ## Work queues (R38 to R41) -/

/-- R41: there is control room. -/
def State.controlRoom (s : State) : Bool :=
  decide (s.engine.outbound.length < 16) && decide (s.sendQueue.taken < 32)

/-- An item joins the Outbound Work Queue at the tail. -/
def State.joinOutbound (s : State) (i : OutItem) : State :=
  s.modEngine (fun e => { e with outbound := e.outbound ++ [i] })

/-- An item joins the Inbound Work Queue at the tail. -/
def State.joinInbound (s : State) (i : InItem) : State :=
  s.modEngine (fun e => { e with inbound := e.inbound ++ [i] })

/-- An item joins the Unwrap Queue at the tail. -/
def State.joinUnwrap (s : State) (i : UnwrapItem) : State :=
  s.modEngine (fun e => { e with unwrap := e.unwrap ++ [i] })

/-- R160: an answer is offered to the engine. `atTaking` says that it was built at its message's taking, where it sets
the answer-outstanding mark (R158). -/
def State.offerAnswer (s : State) (kind tag : Byte) (code : Completion) (body : List Byte)
    (atTaking restartMark : Bool) : State :=
  if s.controlRoom then
    (s.joinOutbound
        { assoc := 0, plaintext := answerOctets kind tag code body, restartMark := restartMark, setsMark := atTaking }
      ).modManagement (fun m => { m with answerOutstanding := m.answerOutstanding || atTaking })
  else s.countStation .responseDrop

/-- R57, R157: a deciphered message joins the Control Inbox, or is dropped at a full one. -/
def State.joinInbox (s : State) (m : ControlMessage) : State :=
  if s.management.inbox.length < 4 then
    s.modManagement (fun u => { u with inbox := u.inbox ++ [m] })
  else s.countStation .inboxDrop

end Sys2Proof.Machine
end

