-- ==== Sys2Proof/Machine/Flags.lean ====
section
/-! DEFINITION. The conditions and levels the spec evaluates from the records: the renewal-due reasons (R112), WEAR_PCT
(R21), and the tests of the monitors (R129). -/

namespace Sys2Proof.Machine

/-! ## Renewal-due (R112) -/

/-- R112: the reasons a key may be due. -/
inductive DueReason where
  | wear
  | age
  | sequence
  | monitor
  deriving DecidableEq, Repr

/-- R179: the octet of a reason in a set of reasons. -/
def DueReason.code : DueReason → Byte
  | .wear => 1 | .age => 2 | .sequence => 4 | .monitor => 8

/-- R112: whether a reason holds of an association and its ACTIVE bank. -/
def Assoc.reasonHolds (r : Assoc) (k : Bank) : DueReason → Bool
  | .wear => decide (r.policy.softLimit.toNat ≤ k.wear.toNat)
  | .age => r.policy.maxKeyAge != 0 && decide (r.policy.maxKeyAge.toNat ≤ k.keyAge.toNat)
  | .sequence => decide (2147483648 ≤ k.nextSequence.toNat)
  | .monitor => r.monitorRenewal

/-- R112: the renewal-due reasons that hold; empty when the association is not renewal-due. -/
def Assoc.dueReasons (r : Assoc) : List DueReason :=
  match r.activeBank with
  | none => []
  | some b =>
    if r.freshBank = none ∧ r.transaction = none ∧ r.state ≠ .closing then
      [DueReason.wear, .age, .sequence, .monitor].filter (r.reasonHolds (r.bank b))
    else []

/-- R112: the association is renewal-due. -/
def Assoc.isDue (r : Assoc) : Bool := !r.dueReasons.isEmpty

/-- R179: a set of reasons in one octet. -/
def reasonsOctet (l : List DueReason) : Byte := l.foldl (fun o r => o + r.code) 0

/-! ## Levels (R21) -/

/-- R21: WEAR_PCT, evaluated at the read. -/
def Assoc.wearPct (r : Assoc) : Nat :=
  match r.activeBank with
  | some b => (r.bank b).wear.toNat * 100 / r.policy.hardLimit.toNat
  | none => 0

/-- R124: the value of a monitor's source. -/
def State.sourceValue (s : State) (c : MonitorConfig) : W32 :=
  match c.source with
  | .station i => s.stationCount i
  | .association i =>
    let a : AssocId := Fin.ofNat 32 c.sourceAssoc.toNat
    match i with
    | .counter k => s.assocCount a k
    | .quiet => (s.assoc a).quiet.zeroExtend 32
    | .wearPct => BitVec.ofNat 32 (s.assoc a).wearPct

/-! ## The tests of a monitor (R126 to R129) -/

/-- R126: the difference from the previous sample, a fall read as a restart from 0. -/
def sampleDifference (previous c : W32) : W32 := if previous.toNat ≤ c.toNat then c - previous else c

/-- R128: the rate per minute, computed wide and saturated. -/
def ratePerMinute (d : W32) (period : Byte) : W32 :=
  BitVec.ofNat 32 (min 4294967295 (d.toNat * 60 / period.toNat))

/-- R126: the measured value. -/
def MonitorConfig.measure (k : MonitorConfig) (c d : W32) : W32 :=
  match k.mode with
  | .level => c
  | .delta => d
  | .rate => ratePerMinute d k.period

/-- R129: the set condition. -/
def MonitorConfig.setHolds (k : MonitorConfig) (m : W32) : Bool :=
  match k.sense with
  | .rise => decide (k.setLevel.toNat ≤ m.toNat)
  | .fall => decide (m.toNat ≤ k.setLevel.toNat)

/-- R129: the clear condition. -/
def MonitorConfig.clearHolds (k : MonitorConfig) (m : W32) : Bool :=
  match k.sense with
  | .rise => decide (m.toNat ≤ k.clearLevel.toNat)
  | .fall => decide (k.clearLevel.toNat ≤ m.toNat)

/-! ## Directions (R31, R49, R52, R73) -/

/-- The direction allows frames to the office. -/
def Direction.allowsOutbound : Direction → Bool
  | .both => true
  | .outbound => true
  | .inbound => false

/-- The direction allows frames to the shop. -/
def Direction.allowsInbound : Direction → Bool
  | .both => true
  | .inbound => true
  | .outbound => false

end Sys2Proof.Machine
end

