-- ==== Sys2Proof/Machine/Reports.lean ====
section
/-! DEFINITION. The Fault Report Queue: taking a report (R143 to R146), sending (R147 to R149), acknowledgement and
timeout (R151, R152). -/

namespace Sys2Proof.Machine

/-! ## Numbering (R143) -/

/-- R143: the number after a number, from 65535 to 1. -/
def numberAfter (n : W16) : W16 := if n = 65535 then 1 else n + 1

/-- R143: the first number from `n` on that no record holds, looking at `fuel` numbers; 24 records hold at most 24. -/
def freeNumber (l : List ReportRecord) (n : W16) : Nat → W16
  | 0 => n
  | fuel + 1 => if l.any (fun r => r.number == n) then freeNumber l (numberAfter n) fuel else n

/-! ## Choosing a record -/

/-- An UNSENT record of a kind and source. -/
def ReportRecord.isUnsentOf (r : ReportRecord) (k : ReportKind) (src : ReportSource) : Bool :=
  r.state == .unsent && r.kind == k && r.source == src

/-- The greatest severity among the UNSENT records, 0 when there is none. -/
def topSeverity (l : List ReportRecord) : Nat :=
  l.foldl (fun m r => if r.state = .unsent then max m r.severity.toNat else m) 0

/-- The lowest severity among the UNSENT records, 256 when there is none. -/
def lowSeverity (l : List ReportRecord) : Nat :=
  l.foldl (fun m r => if r.state = .unsent then min m r.severity.toNat else m) 256

/-- Changes the first record that satisfies a test. -/
def modifyFirst (p : ReportRecord → Bool) (f : ReportRecord → ReportRecord) : List ReportRecord → List ReportRecord
  | [] => []
  | r :: l => if p r then f r :: l else r :: modifyFirst p f l

/-- R148: the record to offer: among the UNSENT ones of the highest severity, the oldest. -/
def offerTest (l : List ReportRecord) (r : ReportRecord) : Bool :=
  r.state == .unsent && r.severity.toNat == topSeverity l

/-- The number of records IN_FLIGHT. -/
def inFlightCount (l : List ReportRecord) : Nat := (l.filter (fun r => r.state == .inFlight)).length

/-! ## Sending (R147 to R149) -/

/-- R148: the octets of a FAULT_REPORT for a record, with the dropped count. -/
def faultReportOctets (r : ReportRecord) (dropped : Byte) : List Byte :=
  messageOctets 0x60 0
    (word 2 r.number ++ [r.kind.code, r.severity, r.source.code, r.resendCount, dropped, 0] ++ word 2 r.occurrences ++
      [0, 0] ++ word 4 r.firstTime ++ word 4 r.lastTime ++ word 4 (r.value.getD 0))

/-- R148: an offer: the chosen record becomes IN_FLIGHT and its message joins the Outbound Work Queue. -/
def State.offerReport (s : State) (r : ReportRecord) : State :=
  let ms := s.time.milliseconds
  let set := s.management.settings
  (s.joinOutbound
      { assoc := 0, plaintext := faultReportOctets r s.reports.dropped, restartMark := false, setsMark := false }
    ).modReports (fun q =>
      { q with
        records := modifyFirst (offerTest q.records)
          (fun x => { x with state := .inFlight, ackDeadline := some (ms + 100 * set.ackTimeout.toNat) }) q.records
        dropped := 0
        pacingDeadline := if set.reportPacing = 0 then q.pacingDeadline else some (ms + 10 * set.reportPacing.toNat)
        retryDeadline := none })

/-- R147: a send attempt. With no pacing it offers record after record while the conditions hold; an attempt that lacks
control room alone starts the retry timer, and the timer runs only while records wait for room alone. At most 4 offers
can follow one another, for each leaves one more record IN_FLIGHT. -/
def State.attemptSend (s : State) : Nat → State
  | 0 => s
  | fuel + 1 =>
    match s.reports.records.find? (offerTest s.reports.records) with
    | none => s.modReports (fun q => { q with retryDeadline := none })
    | some r =>
      if 4 ≤ inFlightCount s.reports.records ∨ s.reports.pacingDeadline.isSome then
        s.modReports (fun q => { q with retryDeadline := none })
      else if s.controlRoom then (s.offerReport r).attemptSend fuel
      else
        s.modReports (fun q =>
          { q with
            retryDeadline :=
              match q.retryDeadline with
              | some t => some t
              | none => some (s.time.milliseconds + 10) })

/-- R147: a send attempt of the queue; four offers and the test that ends them. -/
def State.sendAttempt (s : State) : State := s.attemptSend 5

/-! ## Taking a report (R144 to R146) -/

/-- R144: a report folded into a record. -/
def ReportRecord.fold (r : ReportRecord) (p : Report) (now : W32) : ReportRecord :=
  { r with
    occurrences := satInc r.occurrences
    lastTime := now
    value := match p.value with
      | some v => some v
      | none => r.value
    severity := if r.severity.toNat < p.severity.toNat then p.severity else r.severity }

/-- R146: a new record. -/
def newRecord (p : Report) (number : W16) (now : W32) : ReportRecord where
  number := number
  kind := p.kind
  severity := p.severity
  source := p.source
  firstTime := now
  lastTime := now
  occurrences := 1
  value := p.value
  state := .unsent
  ackDeadline := none
  resendCount := 0

/-- R143, R146: a record is created at the young end of age order. -/
def ReportQueue.create (q : ReportQueue) (p : Report) (now : W32) : ReportQueue :=
  let n := freeNumber q.records q.nextNumber 25
  { q with records := q.records ++ [newRecord p n now], nextNumber := numberAfter n }

/-- R145: a drop or an eviction at a full queue is counted. -/
def State.countReportDrop (s : State) : State :=
  (s.countStation .reportDrop).modReports (fun q => { q with dropped := satInc q.dropped })

/-- R145: the oldest UNSENT record of the lowest severity leaves. -/
def ReportQueue.evict (q : ReportQueue) : ReportQueue :=
  { q with
    records := q.records.eraseP (fun r => r.state == .unsent && r.severity.toNat == lowSeverity q.records) }

/-- R144 to R147: a report handed to the queue. Every outcome ends with a send attempt: R147 names a report "folded or
placed", and the three cases of R145 are how one is placed, the dropped one among them: DEDUCED (log entry 23). DESIGN
CHOICE: a drop or an eviction is counted before that attempt, so that a message it offers carries the count (log entry
36). -/
def State.handReport (s : State) (p : Report) : State :=
  let now := s.time.seconds
  if s.reports.records.any (fun r => r.isUnsentOf p.kind p.source) then
    (s.modReports (fun q =>
      { q with records := modifyFirst (fun r => r.isUnsentOf p.kind p.source) (fun r => r.fold p now) q.records }
      )).sendAttempt
  else if s.reports.records.length < 24 then
    (s.modReports (fun q => q.create p now)).sendAttempt
  else if lowSeverity s.reports.records < p.severity.toNat then
    (s.countReportDrop.modReports (fun q => q.evict.create p now)).sendAttempt
  else s.countReportDrop.sendAttempt

/-! ## Timeout and acknowledgement (R151, R152) -/

/-- R151: a record whose ack deadline has expired. -/
def ReportRecord.returned (r : ReportRecord) : ReportRecord :=
  { r with state := .unsent, ackDeadline := none, resendCount := satInc r.resendCount }

/-- R151: what the surviving UNSENT record takes from the returning record. -/
def ReportRecord.mergeFrom (survivor returning : ReportRecord) : ReportRecord :=
  { survivor with
    firstTime := if returning.firstTime.toNat < survivor.firstTime.toNat then returning.firstTime
      else survivor.firstTime
    occurrences := satAdd survivor.occurrences returning.occurrences
    severity := if survivor.severity.toNat < returning.severity.toNat then returning.severity else survivor.severity
    resendCount := if survivor.resendCount.toNat < returning.resendCount.toNat then returning.resendCount
      else survivor.resendCount }

/-- R151: the records after the return of the record `r`: returned in its place, or merged with an UNSENT record of the
same kind and source at the older of the two places. -/
def mergeReturning (l : List ReportRecord) (r : ReportRecord) : List ReportRecord :=
  match l.find? (fun x => x.isUnsentOf r.kind r.source) with
  | none => modifyFirst (fun x => x.number == r.number) ReportRecord.returned l
  | some u =>
    let merged := u.mergeFrom r.returned
    let older := l.find? (fun x => x.number == r.number || x.number == u.number)
    let younger := if (older.map (fun x => x.number)) = some r.number then u.number else r.number
    (modifyFirst (fun x => x.number == r.number || x.number == u.number) (fun _ => merged)
        (l.eraseP (fun x => x.number == younger)))

/-- R152: the records named leave the queue; how many did. -/
def removeNumbered (l : List ReportRecord) : List W16 → List ReportRecord × Nat
  | [] => (l, 0)
  | n :: ns =>
    let kept := l.filter (fun r => r.number != n)
    let rest := removeNumbered kept ns
    (rest.1, (l.length - kept.length) + rest.2)

/-- R152: REPORT_ACK at the queue: the records named are removed, and a send attempt follows when any was; with the
number removed. -/
def State.acknowledge (s : State) (numbers : List W16) : State × Nat :=
  let r := removeNumbered s.reports.records numbers
  let s' := s.modReports (fun q => { q with records := r.1 })
  (if r.2 = 0 then s' else s'.sendAttempt, r.2)

end Sys2Proof.Machine
end

