-- ==== Sys2Proof/Machine/Renewal.lean ====
section
/-! DEFINITION. The Renewal Controller: renewal requests (R113 to R115), promotion and drain (R14, R110), the renewal
transaction and its end (R99, R103, R104), installation (R105), exhaustion (R116), wear limits (R117), and the three
key messages (R101, R106, R109). -/

namespace Sys2Proof.Machine

/-! ## Renewal requests (R113 to R115) -/

/-- R115: the octets of a RENEW_REQUEST for an association with the given ACTIVE bank. -/
def renewRequestOctets (a : AssocId) (r : Assoc) (k : Bank) : List Byte :=
  messageOctets 0x61 0
    ([BitVec.ofNat 8 a.val, r.state.code, reasonsOctet r.dueReasons, 0] ++ word 2 k.generation ++ [0, 0] ++
      word 4 k.wear ++ word 4 k.nextSequence ++ word 4 k.keyAge)

/-- R114: a RENEW_REQUEST is offered; without control room it is not made. -/
def State.offerRenewRequest (s : State) (a : AssocId) : State :=
  match (s.assoc a).activeBank with
  | none => s
  | some b =>
    if s.controlRoom then
      s.joinOutbound
        { assoc := 0, plaintext := renewRequestOctets a (s.assoc a) ((s.assoc a).bank b), restartMark := false,
          setsMark := false }
    else s

/-- R114: the renew-request timer starts with the interval as it stands. -/
def State.startRenewTimer (s : State) (a : AssocId) : State :=
  s.modAssoc a (fun r => { r with renewDeadline := some (s.now + r.policy.renewInterval.toNat) })

/-- R113, R114: the renewal-due condition is evaluated. The timer runs exactly while the association is due, so that
becoming due is finding it due without a timer, and ceasing to be due is finding it not due. -/
def State.evaluateDue (s : State) (a : AssocId) : State :=
  if (s.assoc a).isDue then
    match (s.assoc a).renewDeadline with
    | some _ => s
    | none => (s.offerRenewRequest a).startRenewTimer a
  else s.modAssoc a (fun r => { r with renewDeadline := none })

/-- R114: the renew-request timer expires. -/
def State.renewTimerExpires (s : State) (a : AssocId) : State :=
  match (s.assoc a).renewDeadline with
  | none => s
  | some t =>
    if s.now < t then s
    else if (s.assoc a).isDue then (s.offerRenewRequest a).startRenewTimer a
    else s.modAssoc a (fun r => { r with renewDeadline := none })

/-! ## Promotion and drain (R14, R15, R110) -/

/-- R14: an ACTIVE bank that becomes DRAINING. -/
def Bank.startDrain (k : Bank) (deadline : Nat) : Bank :=
  if k.state = .active then { k with state := .draining, drainDeadline := some deadline } else k

/-- R14: the FRESH bank that becomes ACTIVE. -/
def Bank.activate (k : Bank) : Bank := { k with state := .active, nextSequence := 1, keyAge := 0 }

/-- R14: the promotion of bank `b` of an association, at the seconds count `now`. -/
def Assoc.promote (r : Assoc) (b : BankId) (now : Nat) : Assoc :=
  let drained := (r.bank (otherBank b)).startDrain (now + r.policy.drainPeriod.toNat)
  { (r.setBank (otherBank b) drained).setBank b (r.bank b).activate with selector := b, monitorRenewal := false }

/-- R14, R106, R107: a promotion and the renewal-due evaluation that follows it. -/
def State.promote (s : State) (a : AssocId) (b : BankId) : State :=
  (s.modAssoc a (fun r => r.promote b s.now)).evaluateDue a

/-- R15, R110: the drain deadline of a bank expires. -/
def Bank.drainExpires (k : Bank) : Bank :=
  if k.inUse = 0 then emptyBank else { k with state := .retiring, drainDeadline := none }

/-- R110: the expiry of a bank's drain deadline, when it is reached. -/
def State.drainExpiry (s : State) (a : AssocId) (b : BankId) : State :=
  match (s.bank a b).drainDeadline with
  | none => s
  | some t =>
    if (s.bank a b).state = .draining ∧ t ≤ s.now then s.modBank a b Bank.drainExpires else s

/-! ## Exhaustion (R18, R116) -/

/-- R18, R116: an item is refused for want of wear or sequence room. -/
def State.exhaust (s : State) (a : AssocId) (b : BankId) : State :=
  let s' := s.countAssoc a .exhaustDrop
  if (s.bank a b).exhausted then s'
  else
    (s'.modBank a b (fun k => { k with exhausted := true })).handReport
      { kind := .keyExhausted, severity := 4, source := .association a, value := none }

/-! ## The renewal transaction (R99, R103, R104) -/

/-- R99: the transaction of an association ends: its answer is offered with the recorded tag, it is removed, the
in-flight count falls, a CLOSING association may become VACANT, and renewal-due is evaluated. R103 puts the answer of a
refusal before the evaluation. R104 gives the answer of a completion and the RENEW_REQUEST that its end may bring no order:
DESIGN CHOICE, the answer is offered first there too (log entry 38). -/
def State.endTransaction (s : State) (a : AssocId) (code : Completion) : State :=
  match (s.assoc a).transaction with
  | none => s
  | some t =>
    ((s.offerAnswer MessageKind.keyOffer.code t.tag code (keyAnswerBody (BitVec.ofNat 8 t.target.val) t.generation)
        false false).modAssoc a (fun r => { r with transaction := none }.landed)).evaluateDue a

/-- R105: the association after the installation of a key. -/
def Assoc.install (r : Assoc) (g : W16) (key : Key) : Assoc :=
  match r.state with
  | .pending =>
    { r with bankA := installedBank .active g key, selector := .bankA, state := .live, monitorRenewal := false }
  | .live => r.setBank r.spareBank (installedBank .fresh g key)
  | .suspended => r.setBank r.spareBank (installedBank .fresh g key)
  | .vacant => r
  | .closing => r

/-- R101 check 6, R104 condition 3: the association has an ACTIVE bank and its other bank is DRAINING or RETIRING. -/
def Assoc.otherBankBusy (r : Assoc) : Bool :=
  match r.activeBank with
  | none => false
  | some b => (r.bank (otherBank b)).state == .draining || (r.bank (otherBank b)).state == .retiring

/-- R104: the outcome of an unwrap at its completion. -/
def unwrapOutcome (r : Assoc) (checkPasses : Bool) : Completion :=
  if !checkPasses then .badValue
  else if r.state = .closing then .refused
  else if r.otherBankBusy then .busy
  else .done

/-- R104: the effect of a failed wrap check: the count and the report. -/
def State.wrapReject (s : State) (a : AssocId) : State :=
  (s.countStation .wrapReject).handReport
    { kind := .wrapReject, severity := 3, source := .association a, value := none }

/-- R104: the Renewal Controller finishes a transaction at an unwrap completion. Which of the WRAP_REJECT report and the
answer comes first is left open: a free choice (log entry 3). -/
def State.finishOffer (s : State) (i : UnwrapItem) (key : Key) (checkPasses : Bool) : State :=
  match unwrapOutcome (s.assoc i.target) checkPasses with
  | .badValue =>
    if s.choice then (s.spendChoice.wrapReject i.target).endTransaction i.target .badValue
    else (s.spendChoice.endTransaction i.target .badValue).wrapReject i.target
  | .done => (s.modAssoc i.target (fun r => r.install i.generation key)).endTransaction i.target .done
  | code => s.endTransaction i.target code

/-! ## Wear limits (R117) -/

/-- R117: the highest wear count among the non-EMPTY banks, 0 when both are EMPTY. -/
def Assoc.highestWear (r : Assoc) : W32 :=
  let wa := if r.bankA.state = .empty then 0 else r.bankA.wear
  let wb := if r.bankB.state = .empty then 0 else r.bankB.wear
  if wa.toNat < wb.toNat then wb else wa

/-- R117 steps 1 and 2: the hard wear limit as stored. -/
def clampHard (written highest : W32) : W32 :=
  let h := if written = 0 then 1 else written
  if h.toNat < highest.toNat then highest else h

/-- R117 steps 3 and 4: the soft wear limit as stored. -/
def clampSoft (written hard : W32) : W32 :=
  let w := if written = 0 then 1 else written
  if hard.toNat < w.toNat then hard else w

/-- R164, R117: the clamps of a written ASSOC_CONFIG entry, in their order. -/
def clampPolicy (a : AssocId) (r : Assoc) (p : Policy) : Policy :=
  let p := if a = 0 then { p with direction := .both, trafficClass := .control, hardLimit := 4294967295 } else p
  let hard := clampHard p.hardLimit r.highestWear
  { p with
    hardLimit := hard
    softLimit := clampSoft p.softLimit hard
    drainPeriod := if p.drainPeriod = 0 then 1 else p.drainPeriod
    renewInterval := if p.renewInterval.toNat < 10 then 10 else p.renewInterval }

/-! ## Key messages (R101, R106, R109) -/

/-- The association a message names, none above 31. -/
def assocNamed (o : Byte) : Option AssocId := if h : o.toNat < 32 then some ⟨o.toNat, h⟩ else none

/-- The checks of a key message that all three kinds share, in their order: R101, R106 and R109 checks 1 to 3. -/
def State.keyMessageCheck (s : State) (o : Byte) : Except Completion AssocId :=
  match assocNamed o with
  | none => .error .badIndex
  | some a =>
    if (s.assoc a).state = .vacant ∨ (s.assoc a).state = .closing then .error .refused
    else if (s.assoc a).transaction.isSome then .error .busy
    else .ok a

/-- A bank is EMPTY or its generation is below `g`. -/
def Bank.generationBelow (k : Bank) (g : W16) : Bool := k.state == .empty || decide (k.generation.toNat < g.toNat)

/-- R101 check 4: `g` is greater than the generation of every non-EMPTY bank. -/
def Assoc.generationRises (r : Assoc) (g : W16) : Bool := r.bankA.generationBelow g && r.bankB.generationBelow g

/-- The FRESH bank holds `g`. -/
def Assoc.freshHolds (r : Assoc) (g : W16) : Bool :=
  match r.freshBank with
  | none => false
  | some b => (r.bank b).generation == g

/-- The ACTIVE bank holds `g`. -/
def Assoc.activeHolds (r : Assoc) (g : W16) : Bool :=
  match r.activeBank with
  | none => false
  | some b => (r.bank b).generation == g

/-- R101 checks 4 to 7: the answer given at once, or none when every check passes. -/
def State.offerVerdict (s : State) (a : AssocId) (g : W16) : Option Completion :=
  let r := s.assoc a
  if !r.generationRises g && !r.freshHolds g then some .badValue
  else if r.freshHolds g then some .done
  else if r.otherBankBusy then some .busy
  else if 4 ≤ s.engine.unwrap.length then some .busy
  else none

/-- R99: a transaction is created, an unwrap item queued, and the in-flight count raised. -/
def State.beginTransaction (s : State) (a : AssocId) (g : W16) (tag : Byte) (via : Carrier) (wrapped : Key)
    (wrapCheck : BitVec 64) : State :=
  ((s.modAssoc a (fun r =>
      { r with
        transaction := some
          { target := a, generation := g, tag := tag, bank := via.bank, bankGeneration := via.generation }
        inFlight := r.inFlight + 1 })).joinUnwrap
      { target := a, generation := g, bank := via.bank, bankGeneration := via.generation, sequence := via.sequence,
        wrapped := wrapped, wrapCheck := wrapCheck }).evaluateDue a

/-- R101: KEY_OFFER at the controller: the answer given at the taking, none when a transaction was created. -/
def State.keyOffer (s : State) (o : Byte) (g : W16) (tag : Byte) (via : Carrier) (wrapped : Key)
    (wrapCheck : BitVec 64) : State × Option Completion :=
  match s.keyMessageCheck o with
  | .error c => (s, some c)
  | .ok a =>
    match s.offerVerdict a g with
    | some c => (s, some c)
    | none => (s.beginTransaction a g tag via wrapped wrapCheck, none)

/-- R106: KEY_SWITCH at the controller. -/
def State.keySwitch (s : State) (o : Byte) (g : W16) : State × Completion :=
  match s.keyMessageCheck o with
  | .error c => (s, c)
  | .ok a =>
    match (s.assoc a).freshBank with
    | some b =>
      if (s.bank a b).generation = g then (s.promote a b, .done)
      else if (s.assoc a).activeHolds g then (s, .done)
      else (s, .badValue)
    | none => if (s.assoc a).activeHolds g then (s, .done) else (s, .badValue)

/-- R109: KEY_WITHDRAW at the controller. -/
def State.keyWithdraw (s : State) (o : Byte) (g : W16) : State × Completion :=
  match s.keyMessageCheck o with
  | .error c => (s, c)
  | .ok a =>
    match (s.assoc a).freshBank with
    | none => (s, .done)
    | some b =>
      if (s.bank a b).generation ≠ g then (s, .badValue)
      else if (s.bank a b).inUse ≠ 0 then (s, .busy)
      else ((s.modBank a b (fun _ => emptyBank)).evaluateDue a, .done)

end Sys2Proof.Machine
end

