-- ==== Sys2Proof/Machine/Engine.lean ====
section
/-! DEFINITION. The Cipher Engine: the arbiter (R43), admission (R49, R50, R52, R58) and completion (R51, R53 to R57,
R59) of each kind of item. -/

namespace Sys2Proof.Machine

/-! ## Admission -/

/-- R43: the class an association's frames are sent in. -/
def State.classOf (s : State) (a : AssocId) : TrafficClass := if a = 0 then .control else (s.assoc a).trafficClass

/-- R50: an admitted outbound item is bound to the ACTIVE bank `b` of its association. -/
def State.bindOutbound (s : State) (i : OutItem) (b : BankId) : State :=
  let k := s.bank i.assoc b
  let c := s.classOf i.assoc
  let frame := sealFrame k.key s.identity.station i.assoc k.generation k.nextSequence i.restartMark i.plaintext
  (((s.modAssoc i.assoc (fun r =>
        { r.setBank b { k.charge (frameCost i.plaintext.length) with nextSequence := k.nextSequence + 1 } with
          inFlight := r.inFlight + 1 })).modSendQueue (fun q => q.reserve c i.restartMark)
      ).modEngine (fun e => { e with current := some (.outbound i.assoc b c frame) })).evaluateDue i.assoc

/-- R49: outbound admission. -/
def State.admitOutbound (s : State) (i : OutItem) : State :=
  let r := s.assoc i.assoc
  match r.activeBank with
  | none => s.countAssoc i.assoc .stateDrop
  | some b =>
    if ¬(r.state = .live ∧ r.direction.allowsOutbound = true) then s.countAssoc i.assoc .stateDrop
    else if (r.bank b).nextSequence = 4294967295 then s.exhaust i.assoc b
    else if (r.bank b).bears (frameCost i.plaintext.length) r.policy.hardLimit then s.bindOutbound i b
    else s.exhaust i.assoc b

/-- R52: an admitted inbound item is bound to its bank. -/
def State.bindInbound (s : State) (i : InItem) : State :=
  let k := s.bank i.assoc i.bank
  let plaintext := applyKeystream k.key i.assoc receivedDirection k.generation i.sequence i.ciphertext
  let tag := frameTag k.key i.header i.ciphertext
  ((s.modAssoc i.assoc (fun r =>
        { r.setBank i.bank (k.charge (frameCost i.ciphertext.length)) with inFlight := r.inFlight + 1 })
      ).modEngine (fun e => { e with current := some (.inbound i plaintext tag) })).evaluateDue i.assoc

/-- R52: inbound admission. -/
def State.admitInbound (s : State) (i : InItem) : State :=
  let r := s.assoc i.assoc
  if ¬(r.state = .live ∧ r.direction.allowsInbound = true) then s.countAssoc i.assoc .stateDrop
  else if (r.bank i.bank).usableFor i.generation = false then s.countAssoc i.assoc .staleGen
  else if (r.bank i.bank).bears (frameCost i.ciphertext.length) r.policy.hardLimit then s.bindInbound i
  else s.exhaust i.assoc i.bank

/-- R58: an admitted unwrap item charges the recorded association 0 bank. -/
def State.bindUnwrap (s : State) (i : UnwrapItem) : State :=
  let k := s.bank 0 i.bank
  ((s.modBank 0 i.bank (fun k => k.charge unwrapCost)).modEngine (fun e =>
      { e with current := some (.unwrap i (unwrappedKey k.key i) (wrapCheckPasses k.key i)) })).evaluateDue 0

/-- R58, R103: unwrap admission. Where the item is refused for want of wear room, the order of the exhaustion with its
KEY_EXHAUSTED report and of the transaction's end with its REFUSED answer is left open: a free choice (log entry 3). -/
def State.admitUnwrap (s : State) (i : UnwrapItem) : State :=
  if (s.bank 0 i.bank).usableFor i.bankGeneration = false then s.endTransaction i.target .refused
  else if (s.bank 0 i.bank).bears unwrapCost (s.assoc 0).policy.hardLimit then s.bindUnwrap i
  else if s.choice then (s.spendChoice.exhaust 0 i.bank).endTransaction i.target .refused
  else (s.spendChoice.endTransaction i.target .refused).exhaust 0 i.bank

/-! ## The arbiter (R43) -/

/-- What the arbiter chooses. -/
inductive ArbiterChoice where
  | unwrap
  | inbound
  | outbound
  deriving DecidableEq, Repr

/-- R43: the outbound side is ready. -/
def State.outboundReady (s : State) : Bool :=
  match s.engine.outbound with
  | [] => false
  | i :: _ => s.sendQueue.placeFree (s.classOf i.assoc)

/-- R43: the arbiter's choice, none while the engine is BUSY or nothing is ready. -/
def State.arbiterChoice (s : State) : Option ArbiterChoice :=
  if s.engine.current.isSome then none
  else if s.engine.unwrap ≠ [] then some .unwrap
  else if s.engine.inbound ≠ [] ∧ s.outboundReady = true then
    match s.engine.lastServed with
    | .inbound => some .outbound
    | .outbound => some .inbound
  else if s.engine.inbound ≠ [] then some .inbound
  else if s.outboundReady = true then some .outbound
  else none

/-- The unwrap head is taken; the last-served mark stays. -/
def State.serveUnwrap (s : State) : State :=
  match s.engine.unwrap with
  | [] => s
  | i :: l => (s.modEngine (fun e => { e with unwrap := l })).admitUnwrap i

/-- The inbound head is taken. -/
def State.serveInbound (s : State) : State :=
  match s.engine.inbound with
  | [] => s
  | i :: l => (s.modEngine (fun e => { e with inbound := l, lastServed := .inbound })).admitInbound i

/-- The outbound head is taken; an answer that set the answer-outstanding mark clears it (R158). R158 has the next message
taken at the event that clears the mark, and does not say whether that comes before the answer's admission or after it:
DESIGN CHOICE, the answer is admitted or refused first (log entry 40). -/
def State.serveOutbound (s : State) : State :=
  match s.engine.outbound with
  | [] => s
  | i :: l =>
    ((s.modEngine (fun e => { e with outbound := l, lastServed := .outbound })).modManagement (fun m =>
        { m with answerOutstanding := m.answerOutstanding && !i.setsMark })).admitOutbound i

/-- R43: the chosen head is taken and admitted or refused. -/
def State.serve (s : State) : ArbiterChoice → State
  | .unwrap => s.serveUnwrap
  | .inbound => s.serveInbound
  | .outbound => s.serveOutbound

/-! ## Delivery (R35, R36, R57) -/

/-- R36: in IDLE, with a frame waiting and the MAC side ready, transmission of the head begins. -/
def ShopPort.start (p : ShopPort) : ShopPort :=
  match p.transmit, p.delivery with
  | .idle, f :: _ => if p.macReady then { p with transmit := .sending (shopFrameOctets f) } else p
  | _, _ => p

/-- R35, R57: a frame joins the Shop Delivery Queue, or is dropped at a full one. -/
def State.joinDelivery (s : State) (plaintext : List Byte) : State :=
  if s.shop.delivery.length < 16 then
    s.modShop (fun p => { p with delivery := p.delivery ++ [plaintext] }.start)
  else s.countStation .deliveryDrop

/-- R57: an accepted frame is delivered. -/
def State.deliver (s : State) (i : InItem) (plaintext : List Byte) : State :=
  if i.assoc = 0 then
    s.joinInbox
      { octets := plaintext,
        via := { bank := i.bank, generation := (s.bank 0 i.bank).generation, sequence := i.sequence } }
  else s.joinDelivery plaintext

/-! ## Completion -/

/-- The engine becomes IDLE. -/
def State.engineIdle (s : State) : State := s.modEngine (fun e => { e with current := none })

/-- R80, R86: a filling; in IDLE it moves the controller to RESERVED. -/
def State.fillPlace (s : State) (c : TrafficClass) (f : SealedFrame) : State :=
  (s.modSendQueue (fun q => q.fill c f)).modAccess (fun x =>
    if x.state = .idle then { x with state := .reserved } else x)

/-- R51: outbound completion. -/
def State.completeOutbound (s : State) (a : AssocId) (b : BankId) (c : TrafficClass) (f : SealedFrame) : State :=
  let s := s.engineIdle
  if (s.assoc a).state = .live then ((s.fillPlace c f).countAssoc a .enciphered).releaseItem a b
  else ((s.modSendQueue (fun q => q.unreserve c)).countAssoc a .stateDrop).releaseItem a b

/-- R55, R56: an accepted item: the window, the counts, and the promotion of a FRESH bank. -/
def State.acceptInbound (s : State) (i : InItem) : State :=
  let s1 := ((s.modBank i.assoc i.bank (fun k => k.mark i.sequence)).countAssoc i.assoc .deciphered).modAssoc i.assoc
    (fun r => { r with quiet := 0 })
  if (s.bank i.assoc i.bank).state = .fresh then s1.promote i.assoc i.bank else s1

/-- R53 to R57: inbound completion. -/
def State.completeInbound (s : State) (i : InItem) (plaintext tag : List Byte) : State :=
  let s := s.engineIdle
  if tag ≠ i.tag then (s.countAssoc i.assoc .tagFail).releaseItem i.assoc i.bank
  else if (s.assoc i.assoc).state ≠ .live then (s.countAssoc i.assoc .stateDrop).releaseItem i.assoc i.bank
  else if (s.bank i.assoc i.bank).accepts i.sequence then
    ((s.acceptInbound i).deliver i plaintext).releaseItem i.assoc i.bank
  else (s.countAssoc i.assoc .replay).releaseItem i.assoc i.bank

/-- R59, R104: unwrap completion. -/
def State.completeUnwrap (s : State) (i : UnwrapItem) (key : Key) (checkPasses : Bool) : State :=
  (s.engineIdle.finishOffer i key checkPasses).modBank 0 i.bank Bank.release

end Sys2Proof.Machine
end

