-- ==== Sys2Proof/Machine/Store.lean ====
section
/-! DEFINITION. The Association Store's commands: ASSOC_OPEN, ASSOC_CLOSE, ASSOC_RESUME (R4, R5, R8), the suspend and
renewal requests of the monitors (R7, R136), and the second of the Time Base at the store (R16, R21). -/

namespace Sys2Proof.Machine

/-- R4: the record of a VACANT association that is opened. -/
def Assoc.opened (r : Assoc) : Assoc :=
  { r with
    state := .pending
    direction := r.policy.direction
    trafficClass := r.policy.trafficClass
    selector := .bankA }

/-- R4: ASSOC_OPEN at the store. -/
def State.openAssoc (s : State) (a : AssocId) : State × Completion :=
  if a = 0 then (s, .refused)
  else
    match (s.assoc a).state with
    | .vacant => (s.modAssoc a Assoc.opened, .done)
    | .closing => (s, .busy)
    | .pending => (s, .refused)
    | .live => (s, .refused)
    | .suspended => (s, .refused)

/-- R5, R113: an association becomes CLOSING, and VACANT at once when nothing is in flight. -/
def State.startClosing (s : State) (a : AssocId) : State :=
  (s.modAssoc a (fun r => { r with state := .closing }.settleClosing)).evaluateDue a

/-- R5: ASSOC_CLOSE at the store. -/
def State.closeAssoc (s : State) (a : AssocId) : State × Completion :=
  if a = 0 then (s, .refused)
  else
    match (s.assoc a).state with
    | .vacant => (s, .done)
    | .closing => (s, .done)
    | .pending => (s.startClosing a, .done)
    | .live => (s.startClosing a, .done)
    | .suspended => (s.startClosing a, .done)

/-- R8: ASSOC_RESUME at the store. -/
def State.resumeAssoc (s : State) (a : AssocId) : State × Completion :=
  (s.modAssoc a (fun r => if r.state = .suspended then { r with state := .live } else r), .done)

/-- R7: a suspend request. Association 0 stays LIVE. -/
def State.suspendAssoc (s : State) (a : AssocId) : State :=
  s.modAssoc a (fun r => if r.state = .live ∧ a ≠ 0 then { r with state := .suspended } else r)

/-- R136: a RENEW action sets the monitor-renewal flag, in any state other than VACANT (R1). -/
def State.askRenewal (s : State) (a : AssocId) : State :=
  (s.modAssoc a (fun r => if r.state = .vacant then r else { r with monitorRenewal := true })).evaluateDue a

/-- R16: a second of key age. -/
def Bank.second (k : Bank) : Bank := if k.state = .active then { k with keyAge := satInc k.keyAge } else k

/-- R16, R21: a second at an association record. -/
def Assoc.second (r : Assoc) : Assoc :=
  { r with bankA := r.bankA.second, bankB := r.bankB.second, quiet := satInc r.quiet }

/-- R113: renewal-due is evaluated for the associations of a list, in its order. -/
def State.evaluateAll (s : State) (l : List AssocId) : State := l.foldl State.evaluateDue s

/-- R171: the Association Store takes a Time Base second as its own event: key age and QUIET advance, and renewal-due is
evaluated, in association order (log entry 7). -/
def State.storeSecond (s : State) : State :=
  ({ s.setStoreWaits false with assocs := s.assocs.map Assoc.second }).evaluateAll (List.finRange 32)

end Sys2Proof.Machine
end

