-- ==== Sys2Proof/Machine/Monitors.lean ====
section
/-! DEFINITION. The Monitor Unit: sampling (R125 to R129), firing and its action (R135, R136), clearing (R137 to R139),
the startup inhibit (R132), and the clamps and restart of a write (R130, R131). -/

namespace Sys2Proof.Machine

/-! ## Writing (R130, R131) -/

/-- R130: the clamps of a written record, in their order. -/
def clampMonitor (c : MonitorConfig) : MonitorConfig :=
  let period := if c.period = 0 then 1 else c.period
  let persistence := if c.persistence = 0 then 1 else if 15 < c.persistence.toNat then 15 else c.persistence
  match c.sense with
  | .rise =>
    let setLevel := if c.setLevel = 0 then 1 else c.setLevel
    { c with
      period := period
      persistence := persistence
      setLevel := setLevel
      clearLevel := if setLevel.toNat ≤ c.clearLevel.toNat then setLevel - 1 else c.clearLevel }
  | .fall =>
    let setLevel := if c.setLevel = 4294967295 then 4294967294 else c.setLevel
    { c with
      period := period
      persistence := persistence
      setLevel := setLevel
      clearLevel := if c.clearLevel.toNat ≤ setLevel.toNat then setLevel + 1 else c.clearLevel }

/-- R131, R132: the state a monitor that samples starts in. -/
def MonitorConfig.startState (c : MonitorConfig) : MonitorState :=
  match c.sense with
  | .rise => .clear
  | .fall => .arming

/-- R131: a monitor restarted by a write, at the seconds count `now`. -/
def restartedMonitor (c : MonitorConfig) (now : Nat) : Monitor :=
  let base : Monitor :=
    { config := c, state := .off, baseline := false, previous := 0, persistenceCount := 0, lastMeasured := 0,
      conditionGone := false, nextSample := none }
  if !c.enable then base
  else if now < c.startupInhibit.toNat then { base with state := .inhibited }
  else { base with state := c.startState, nextSample := some (now + c.period.toNat) }

/-- R132: the startup inhibit of a monitor runs out. -/
def State.inhibitExpires (s : State) (m : MonitorId) : State :=
  let r := s.monitor m
  if r.state = .inhibited ∧ r.config.startupInhibit.toNat ≤ s.now then
    s.setMonitor m { r with state := r.config.startState, nextSample := some (s.now + r.config.period.toNat) }
  else s

/-! ## Sampling -/

/-- What a sample asks of other blocks: nothing, a firing, or a clearing, with the measured value. -/
inductive SampleEffect where
  | quiet
  | fired (m : W32)
  | cleared (m : W32)
  deriving DecidableEq, Repr

/-- R134: a comparing sample on which the set condition holds, in CLEAR or PENDING. -/
def Monitor.setSample (r : Monitor) (m : W32) : Monitor × SampleEffect :=
  if r.config.persistence.toNat ≤ r.persistenceCount + 1 then
    ({ r with state := .fired, persistenceCount := r.persistenceCount + 1 }, .fired m)
  else ({ r with state := .pending, persistenceCount := r.persistenceCount + 1 }, .quiet)

/-- R134: a comparing sample in CLEAR or PENDING; the count is 0 in CLEAR. -/
def Monitor.unfiredSample (r : Monitor) (m : W32) : Monitor × SampleEffect :=
  if r.config.setHolds m then
    match r.state with
    | .pending => r.setSample m
    | _ => { r with persistenceCount := 0 }.setSample m
  else ({ r with state := .clear, persistenceCount := 0 }, .quiet)

/-- R137, R138: a comparing sample in FIRED. -/
def Monitor.firedSample (r : Monitor) (m : W32) : Monitor × SampleEffect :=
  match r.config.latch with
  | .none =>
    if r.config.clearHolds m then ({ r with state := .clear, persistenceCount := 0 }, .cleared m) else (r, .quiet)
  | .hold =>
    if r.config.clearHolds m then ({ r with conditionGone := true }, .quiet)
    else if r.config.setHolds m then ({ r with conditionGone := false }, .quiet)
    else (r, .quiet)

/-- R133: a comparing sample in ARMING. -/
def Monitor.armingSample (r : Monitor) (m : W32) : Monitor × SampleEffect :=
  if r.config.setLevel.toNat < m.toNat then ({ r with state := .clear, persistenceCount := 0 }, .quiet)
  else (r, .quiet)

/-- R127 to R138: a comparing sample with measured value `m`. -/
def Monitor.compare (r : Monitor) (m : W32) : Monitor × SampleEffect :=
  let r := { r with lastMeasured := m }
  match r.state with
  | .arming => r.armingSample m
  | .clear => r.unfiredSample m
  | .pending => r.unfiredSample m
  | .fired => r.firedSample m
  | .off => (r, .quiet)
  | .inhibited => (r, .quiet)

/-- R125 to R127: a sample event with source value `c` at the seconds count `now`: the next period starts, and the first
sample after a restart sets the baseline. -/
def Monitor.sample (r : Monitor) (c : W32) (now : Nat) : Monitor × SampleEffect :=
  let r' := { r with previous := c, baseline := true, nextSample := some (now + r.config.period.toNat) }
  if r.baseline = false ∧ r.config.mode ≠ .level then (r', .quiet)
  else r'.compare (r.config.measure c (sampleDifference r.previous c))

/-- R136: the action of a monitor, run at its entry into FIRED. -/
def State.runAction (s : State) (c : MonitorConfig) : State :=
  match c.action with
  | .note => s
  | .renew => s.askRenewal c.target
  | .suspend => s.suspendAssoc c.target

/-- R135: a firing: the report and the action, which "need no order between them": a free choice (log entry 3). -/
def State.fire (s : State) (m : MonitorId) (c : MonitorConfig) (v : W32) : State :=
  let report : Report := { kind := .monitorFired, severity := c.severity, source := .monitor m, value := some v }
  if s.choice then (s.spendChoice.handReport report).runAction c else (s.spendChoice.runAction c).handReport report

/-- R135, R137: what a sample asks of the other blocks. -/
def State.sampleEffect (s : State) (m : MonitorId) (c : MonitorConfig) : SampleEffect → State
  | .quiet => s
  | .fired v => s.fire m c v
  | .cleared v =>
    s.handReport { kind := .monitorCleared, severity := 1, source := .monitor m, value := some v }

/-- R125: the states in which a period runs. -/
def MonitorState.samples : MonitorState → Bool
  | .off => false
  | .inhibited => false
  | .arming => true
  | .clear => true
  | .pending => true
  | .fired => true

/-- R125: a sample event is due. -/
def State.sampleDue (s : State) (m : MonitorId) : Bool :=
  (s.monitor m).state.samples &&
    match (s.monitor m).nextSample with
    | none => false
    | some t => decide (t ≤ s.now)

/-- R126: the end of a monitor's period. -/
def State.takeSample (s : State) (m : MonitorId) : State :=
  if s.sampleDue m then
    let r := s.monitor m
    let p := r.sample (s.sourceValue r.config) s.now
    (s.setMonitor m p.1).sampleEffect m r.config p.2
  else s

/-! ## MONITOR_CLEAR (R139) -/

/-- R139: MONITOR_CLEAR at a monitor. -/
def Monitor.commandClear (r : Monitor) : Monitor :=
  if r.state = .fired then { r with state := .clear, persistenceCount := 0, conditionGone := false } else r

end Sys2Proof.Machine
end

