-- ==== Sys2Proof/Machine/Tables.lean ====
section
/-! DEFINITION. The ten tables head office may name: their entries as octets (11_formats_at_the_line, "Table entries"),
TABLE_READ (R162), and TABLE_WRITE with the checks and clamps of each writable table (R33, R131, R163, R164, R170). -/

namespace Sys2Proof.Machine

/-! ## The tables -/

/-- The ten tables (09_in_band_management, "Tables and the Settings record"). -/
inductive TableId where
  | flow
  | assocConfig
  | assocStatus
  | monitor
  | monitorStatus
  | settings
  | assocCounters
  | stationCounters
  | identity
  | reportView
  deriving DecidableEq, Repr

/-- The tables in the order of their identifiers, 1 to 10. -/
def tableIds : List TableId :=
  [.flow, .assocConfig, .assocStatus, .monitor, .monitorStatus, .settings, .assocCounters, .stationCounters,
   .identity, .reportView]

/-- The table an identifier names, none outside 1 to 10. -/
def TableId.ofCode (o : Byte) : Option TableId := if o = 0 then none else tableIds[o.toNat - 1]?

/-- The number of entries of a table. -/
def TableId.entryCount : TableId → Nat
  | .flow => 48 | .assocConfig => 32 | .assocStatus => 32 | .monitor => 16 | .monitorStatus => 16
  | .settings => 1 | .assocCounters => 32 | .stationCounters => 1 | .identity => 1 | .reportView => 24

/-- The octets of one entry of a table. -/
def TableId.entrySize : TableId → Nat
  | .flow => 20 | .assocConfig => 20 | .assocStatus => 60 | .monitor => 24 | .monitorStatus => 16
  | .settings => 8 | .assocCounters => 36 | .stationCounters => 60 | .identity => 12 | .reportView => 24

/-- R163: the read-only tables. -/
def TableId.readOnly : TableId → Bool
  | .flow => false | .assocConfig => false | .monitor => false | .settings => false
  | .assocStatus => true | .monitorStatus => true | .assocCounters => true | .stationCounters => true
  | .identity => true | .reportView => true

/-! ## Entries as octets -/

/-- FLOW. -/
def FlowEntry.octets (e : FlowEntry) : List Byte :=
  [flagOctet e.valid, e.action, e.association, flagOctet e.ethertypeGiven] ++ word 2 e.laneMatch ++ word 2 e.ethertype ++
    [flagOctet e.destinationGiven, 0] ++ word 6 e.destination ++ word 4 e.hits

/-- ASSOC_CONFIG. -/
def Policy.octets (p : Policy) : List Byte :=
  [p.direction.code, p.trafficClass.code, 0, 0] ++ word 4 p.softLimit ++ word 4 p.hardLimit ++ word 4 p.maxKeyAge ++
    [p.drainPeriod, p.renewInterval, 0, 0]

/-- The time left to a deadline, 0 when it is absent. -/
def timeLeft (deadline : Option Nat) (now : Nat) : Nat := (deadline.getD 0) - now

/-- The bank part of ASSOC_STATUS, at the seconds count `now`. -/
def Bank.octets (k : Bank) (now : Nat) : List Byte :=
  [k.state.code, flagOctet k.exhausted] ++ word 2 k.generation ++ word 4 k.wear ++ word 4 k.nextSequence ++
    word 4 k.highest ++ word 4 k.keyAge ++ beOctets 1 k.inUse ++ [0] ++ beOctets 2 (timeLeft k.drainDeadline now)

/-- ASSOC_STATUS, at the seconds count `now`. -/
def Assoc.statusOctets (r : Assoc) (now : Nat) : List Byte :=
  [r.state.code, r.direction.code, r.trafficClass.code, selectorCode r.selector] ++ beOctets 2 r.inFlight ++
    [flagOctet r.monitorRenewal, flagOctet r.transaction.isSome] ++
    word 2 ((r.transaction.map (fun t => t.generation)).getD 0) ++ [reasonsOctet r.dueReasons, 0] ++ r.bankA.octets now ++ r.bankB.octets now

/-- MONITOR. -/
def MonitorConfig.octets (c : MonitorConfig) : List Byte :=
  [flagOctet c.enable, c.source.scopeCode, c.source.itemCode, c.sourceAssoc, c.mode.code, c.sense.code, c.period,
    c.persistence, c.latch.code, c.startupInhibit, c.severity, c.action.code, BitVec.ofNat 8 c.target.val, 0, 0, 0] ++
    word 4 c.setLevel ++ word 4 c.clearLevel

/-- MONITOR_STATUS, at the seconds count `now`. -/
def Monitor.statusOctets (r : Monitor) (now : Nat) : List Byte :=
  [r.state.code, flagOctet r.baseline] ++ beOctets 1 r.persistenceCount ++ [flagOctet r.conditionGone] ++
    beOctets 1 (timeLeft r.nextSample now) ++ [0, 0, 0] ++ word 4 r.previous ++ word 4 r.lastMeasured

/-- SETTINGS. -/
def Management.settingsOctets (m : Management) : List Byte :=
  [m.settings.burstLimit, m.settings.ackTimeout, m.settings.reportPacing, flagOctet m.serviceOn, 0, 0, 0, 0]

/-- ASSOC_COUNTERS. -/
def Assoc.counterOctets (r : Assoc) : List Byte :=
  r.counters.toList.flatMap (word 4) ++ word 2 r.quiet ++ beOctets 1 r.wearPct ++ [0]

/-- IDENTITY (R176). -/
def identityOctets (p : Provisioning) (i : Identity) : List Byte :=
  word 6 p.serial ++ [i.station.zeroExtend 8, p.revision] ++ word 2 p.epoch ++ [i.cause.code, 0]

/-- REPORT_VIEW, at the millisecond count `ms`. -/
def ReportRecord.viewOctets (r : ReportRecord) (ms : Nat) : List Byte :=
  word 2 r.number ++ [r.kind.code, r.severity, r.source.code, r.state.code, r.resendCount, 0] ++ word 2 r.occurrences ++
    beOctets 2 (timeLeft r.ackDeadline ms) ++ word 4 r.firstTime ++ word 4 r.lastTime ++ word 4 (r.value.getD 0)

/-- One entry of a table, evaluated at the read (R162). -/
def State.tableEntry (s : State) (t : TableId) (i : Nat) : List Byte :=
  match t with
  | .flow => ((s.flow.toList[i]?).map FlowEntry.octets).getD []
  | .assocConfig => ((s.assocs.toList[i]?).map (fun r => r.policy.octets)).getD []
  | .assocStatus => ((s.assocs.toList[i]?).map (fun r => r.statusOctets s.now)).getD []
  | .monitor => ((s.monitors.toList[i]?).map (fun r => r.config.octets)).getD []
  | .monitorStatus => ((s.monitors.toList[i]?).map (fun r => r.statusOctets s.now)).getD []
  | .settings => s.management.settingsOctets
  | .assocCounters => ((s.assocs.toList[i]?).map Assoc.counterOctets).getD []
  | .stationCounters => s.stationCounters.toList.flatMap (word 4)
  | .identity => identityOctets s.provisioning s.identity
  | .reportView =>
    match s.reports.records[i]? with
    | some r => r.viewOctets s.time.milliseconds
    | none => List.replicate 24 0

/-! ## TABLE_READ (R162) -/

/-- R162, R180: the number of entries returned: as many of the requested as fit in 504 octets. -/
def TableId.returned (t : TableId) (count : Nat) : Nat := min count (504 / t.entrySize)

/-- R162: the completion code and the body of the answer. -/
def State.tableRead (s : State) (table first count : Byte) : Completion × List Byte :=
  if count = 0 ∨ 16 < count.toNat then (.badValue, [])
  else
    match TableId.ofCode table with
    | none => (.badIndex, [])
    | some t =>
      if t.entryCount < first.toNat + count.toNat then (.badIndex, [])
      else
        let n := t.returned count.toNat
        (.done, [table, first, BitVec.ofNat 8 n] ++
          (List.range n).flatMap (fun k => s.tableEntry t (first.toNat + k)))

/-! ## Written entries -/

/-- The octets of the `k`-th of the entries of a TABLE_WRITE. -/
def entryAt (size : Nat) (entries : List Byte) (k : Nat) : List Byte := (entries.drop (size * k)).take size

/-- R33: the values of a Flow Table entry as written; its hit count becomes 0. DESIGN CHOICE: a flag octet of 2 to 255 is
stored as 1 (R178) also in an entry written with valid = no, whose fields R33 has read back as written (log entry 37). -/
def flowOfOctets (e : List Byte) : FlowEntry where
  valid := flagOf (octetAt e 0)
  action := octetAt e 1
  association := octetAt e 2
  ethertypeGiven := flagOf (octetAt e 3)
  laneMatch := word16At e 4
  ethertype := word16At e 6
  destinationGiven := flagOf (octetAt e 8)
  destination := word48At e 10
  hits := 0

/-- R179: the lane matches of a valid entry. -/
def laneMatchCoded (l : W16) : Bool :=
  l == 0xF000 || l == 0xF001 || (decide (1 ≤ l.toNat) && decide (l.toNat ≤ 4094))

/-- R33: the check of a written Flow Table entry; one written with valid = no is stored unchecked. -/
def FlowEntry.passes (e : FlowEntry) : Bool :=
  !e.valid ||
    (laneMatchCoded e.laneMatch && (e.action == 0 || e.action == 1) &&
      decide (1 ≤ e.association.toNat) && decide (e.association.toNat ≤ 31))

/-- R164: an ASSOC_CONFIG entry as written for association `a`, none when it holds a value that no clamp brings into
range. -/
def policyOfOctets (a : AssocId) (e : List Byte) : Option Policy :=
  match Direction.ofCode (octetAt e 0), TrafficClass.ofCode (octetAt e 1) with
  | some d, some c =>
    if a ≠ 0 ∧ c = .control then none
    else
      some { direction := d, trafficClass := c, softLimit := word32At e 4, hardLimit := word32At e 8,
             maxKeyAge := word32At e 12, drainPeriod := octetAt e 16, renewInterval := octetAt e 17 }
  | _, _ => none

/-- R131: a monitor record as written, none when it holds a value that no clamp brings into range. -/
def monitorOfOctets (e : List Byte) : Option MonitorConfig :=
  match SourceItem.ofCodes (octetAt e 1) (octetAt e 2), MonitorMode.ofCode (octetAt e 4), Sense.ofCode (octetAt e 5),
      Latch.ofCode (octetAt e 8), MonitorAction.ofCode (octetAt e 11), assocNamed (octetAt e 12) with
  | some source, some mode, some sense, some latch, some action, some target =>
    if source.scopeCode = 0 ∧ 31 < (octetAt e 3).toNat then none
    else if octetAt e 10 = 0 ∨ 4 < (octetAt e 10).toNat then none
    else
      some { enable := flagOf (octetAt e 0), source := source, sourceAssoc := octetAt e 3, mode := mode, sense := sense,
             period := octetAt e 6, setLevel := word32At e 16, clearLevel := word32At e 20, persistence := octetAt e 7,
             latch := latch, startupInhibit := octetAt e 9, severity := octetAt e 10, action := action,
             target := target }
  | _, _, _, _, _, _ => none

/-- R170: the Settings record as written; the service state it carries is ignored. -/
def settingsOfOctets (e : List Byte) : Settings where
  burstLimit := octetAt e 0
  ackTimeout := octetAt e 1
  reportPacing := octetAt e 2

/-- R170: the clamps of a SETTINGS write. -/
def clampSettings (c : Settings) : Settings :=
  { c with
    burstLimit := if c.burstLimit = 0 then 1 else if 8 < c.burstLimit.toNat then 8 else c.burstLimit
    ackTimeout := if c.ackTimeout = 0 then 1 else c.ackTimeout }

/-! ## Writing one entry -/

/-- What a write comes to: the state, and the entries in which a clamp changed a value. -/
abbrev Written := State × Nat

/-- R33: entry `i` of FLOW is written. No value of the entry is clamped. -/
def writeFlowEntry (w : Written) (i : Nat) (e : List Byte) : Written :=
  if h : i < 48 then (w.1.setFlow ⟨i, h⟩ (flowOfOctets e), w.2) else w

/-- R2, R164: entry `i` of ASSOC_CONFIG is written. The record's direction and class stay until the next opening. -/
def writePolicyEntry (w : Written) (i : Nat) (e : List Byte) : Written :=
  if h : i < 32 then
    match policyOfOctets ⟨i, h⟩ e with
    | none => w
    | some p =>
      let stored := clampPolicy ⟨i, h⟩ (w.1.assoc ⟨i, h⟩) p
      (w.1.modAssoc ⟨i, h⟩ (fun r => { r with policy := stored }), if stored = p then w.2 else w.2 + 1)
  else w

/-- R131: entry `i` of MONITOR is written and its monitor restarted. -/
def writeMonitorEntry (w : Written) (i : Nat) (e : List Byte) : Written :=
  if h : i < 16 then
    match monitorOfOctets e with
    | none => w
    | some c =>
      let stored := clampMonitor c
      (w.1.setMonitor ⟨i, h⟩ (restartedMonitor stored w.1.now), if stored = c then w.2 else w.2 + 1)
  else w

/-- R170: the SETTINGS entry is written. -/
def writeSettingsEntry (w : Written) (e : List Byte) : Written :=
  let c := settingsOfOctets e
  let stored := clampSettings c
  (w.1.modManagement (fun m => { m with settings := stored }), if stored = c then w.2 else w.2 + 1)

/-- One entry of a writable table is written. -/
def TableId.writeEntry (t : TableId) (w : Written) (i : Nat) (e : List Byte) : Written :=
  match t with
  | .flow => writeFlowEntry w i e
  | .assocConfig => writePolicyEntry w i e
  | .monitor => writeMonitorEntry w i e
  | .settings => writeSettingsEntry w e
  | .assocStatus => w
  | .monitorStatus => w
  | .assocCounters => w
  | .stationCounters => w
  | .identity => w
  | .reportView => w

/-! ## TABLE_WRITE (R163) -/

/-- R163 check 6: whether entry `i` as written holds only values that a clamp can bring into range. -/
def TableId.entryPasses (t : TableId) (i : Nat) (e : List Byte) : Bool :=
  match t with
  | .flow => (flowOfOctets e).passes
  | .assocConfig => if h : i < 32 then (policyOfOctets ⟨i, h⟩ e).isSome else false
  | .monitor => (monitorOfOctets e).isSome
  | .settings => true
  | .assocStatus => true
  | .monitorStatus => true
  | .assocCounters => true
  | .stationCounters => true
  | .identity => true
  | .reportView => true

/-- R163: the six checks in their order; the table when all pass. -/
def tableWriteCheck (table first count : Byte) (entries : List Byte) : Except Completion TableId :=
  match TableId.ofCode table with
  | none => .error .badIndex
  | some t =>
    if t.readOnly then .error .refused
    else if count = 0 ∨ 8 < count.toNat then .error .badValue
    else if entries.length ≠ count.toNat * t.entrySize then .error .badLength
    else if t.entryCount < first.toNat + count.toNat then .error .badIndex
    else if (List.range count.toNat).all (fun k => t.entryPasses (first.toNat + k) (entryAt t.entrySize entries k)) then
      .ok t
    else .error .badValue

/-- R163: the entries of a checked write, written as one event. -/
def State.writeEntries (s : State) (t : TableId) (first count : Nat) (entries : List Byte) : Written :=
  (List.range count).foldl (fun w k => t.writeEntry w (first + k) (entryAt t.entrySize entries k)) (s, 0)

/-- R164: the associations a write to ASSOC_CONFIG names, in number order. -/
def TableId.writtenAssocs (t : TableId) (first count : Nat) : List AssocId :=
  if t = .assocConfig then (List.finRange 32).filter (fun a => decide (first ≤ a.val ∧ a.val < first + count)) else []

end Sys2Proof.Machine
end

