-- ==== Sys2Proof/Machine/Management.lean ====
section
/-! DEFINITION. The Management Unit: the taking of a message and its checks (R158, R159), the kinds of message (R161 to
R168), and the settling of an event: the takings and the arbiter's choices that follow at that same event (R44, R158). -/

namespace Sys2Proof.Machine

/-! ## Answers given at the taking (R160) -/

/-- R160: the answer to a message, offered at its taking. -/
def State.reply (s : State) (m : ControlMessage) (code : Completion) (body : List Byte) : State :=
  s.offerAnswer (octetAt m.octets 0) (octetAt m.octets 1) code body true false

/-- R160: an answer with a code other than DONE. -/
def State.reject (s : State) (m : ControlMessage) (code : Completion) : State :=
  s.reply m code (rejectionBody m.octets)

/-- R160: the answer with a code and the body it carries with DONE. -/
def State.conclude (s : State) (m : ControlMessage) (code : Completion) (body : List Byte) : State :=
  if code = .done then s.reply m .done body else s.reject m code

/-! ## The kinds -/

/-- R161: ECHO. -/
def State.takeEcho (s : State) (m : ControlMessage) : State := s.reply m .done (m.octets.drop 4)

/-- R162: TABLE_READ. -/
def State.takeTableRead (s : State) (m : ControlMessage) : State :=
  let r := s.tableRead (octetAt m.octets 4) (octetAt m.octets 5) (octetAt m.octets 6)
  s.conclude m r.1 r.2

/-- R163, R164: TABLE_WRITE. The entries change before the answer is offered; whether the renewal-due evaluation of the
written associations comes before or after the answer is left open: a free choice (log entry 3). -/
def State.takeTableWrite (s : State) (m : ControlMessage) : State :=
  let table := octetAt m.octets 4
  let first := octetAt m.octets 5
  let count := octetAt m.octets 6
  match tableWriteCheck table first count (m.octets.drop 8) with
  | .error c => s.reject m c
  | .ok t =>
    let w := s.writeEntries t first.toNat count.toNat (m.octets.drop 8)
    let body := [table, first, count, BitVec.ofNat 8 w.2]
    let named := t.writtenAssocs first.toNat count.toNat
    if named = [] then w.1.reply m .done body
    else if w.1.choice then (w.1.spendChoice.evaluateAll named).reply m .done body
    else (w.1.spendChoice.reply m .done body).evaluateAll named

/-- R165: the answer to ASSOC_OPEN, ASSOC_CLOSE and ASSOC_RESUME: the association and its state after the message. -/
def State.assocAnswer (m : ControlMessage) (a : AssocId) (r : State × Completion) : State :=
  r.1.conclude m r.2 [BitVec.ofNat 8 a.val, (r.1.assoc a).state.code]

/-- R4, R165: ASSOC_OPEN. -/
def State.takeAssocOpen (s : State) (m : ControlMessage) : State :=
  match assocNamed (octetAt m.octets 4) with
  | none => s.reject m .badIndex
  | some a => State.assocAnswer m a (s.openAssoc a)

/-- R5, R165: ASSOC_CLOSE. -/
def State.takeAssocClose (s : State) (m : ControlMessage) : State :=
  match assocNamed (octetAt m.octets 4) with
  | none => s.reject m .badIndex
  | some a => State.assocAnswer m a (s.closeAssoc a)

/-- R8, R165: ASSOC_RESUME. -/
def State.takeAssocResume (s : State) (m : ControlMessage) : State :=
  match assocNamed (octetAt m.octets 4) with
  | none => s.reject m .badIndex
  | some a => State.assocAnswer m a (s.resumeAssoc a)

/-- R100: the body of the answer to a key message, whatever the code. -/
def keyBodyOf (m : ControlMessage) : List Byte := keyAnswerBody (octetAt m.octets 4) (word16At m.octets 6)

/-- R101: KEY_OFFER. An offer that creates a transaction gives no answer at its taking. -/
def State.takeKeyOffer (s : State) (m : ControlMessage) : State :=
  let r := s.keyOffer (octetAt m.octets 4) (word16At m.octets 6) (octetAt m.octets 1) m.via
    (BitVec.ofNat 256 (beNat ((m.octets.drop 8).take 32))) (BitVec.ofNat 64 (beNat ((m.octets.drop 40).take 8)))
  match r.2 with
  | none => r.1
  | some c => r.1.reply m c (keyBodyOf m)

/-- R106: KEY_SWITCH. DESIGN CHOICE: the renewal request of the evaluation that follows the promotion is offered before
this message's own answer (log entry 33). -/
def State.takeKeySwitch (s : State) (m : ControlMessage) : State :=
  let r := s.keySwitch (octetAt m.octets 4) (word16At m.octets 6)
  r.1.reply m r.2 (keyBodyOf m)

/-- R109: KEY_WITHDRAW. DESIGN CHOICE: the renewal request that the withdrawal brings is offered before this message's own
answer (log entry 33). -/
def State.takeKeyWithdraw (s : State) (m : ControlMessage) : State :=
  let r := s.keyWithdraw (octetAt m.octets 4) (word16At m.octets 6)
  r.1.reply m r.2 (keyBodyOf m)

/-- R139, R166: MONITOR_CLEAR. -/
def State.takeMonitorClear (s : State) (m : ControlMessage) : State :=
  let o := octetAt m.octets 4
  if h : o.toNat < 16 then
    let r := (s.monitor ⟨o.toNat, h⟩).commandClear
    (s.setMonitor ⟨o.toNat, h⟩ r).reply m .done [o, r.state.code]
  else s.reject m .badIndex

/-- R166: the report numbers of a REPORT_ACK body. -/
def ackNumbers (body : List Byte) : List W16 := (List.range (body.length / 2)).map (fun i => word16At body (2 * i))

/-- R152, R166: REPORT_ACK. DESIGN CHOICE: the send attempt that the removal brings comes before this message's own answer
(log entry 33). -/
def State.takeReportAck (s : State) (m : ControlMessage) : State :=
  let r := s.acknowledge (ackNumbers (m.octets.drop 4))
  r.1.reply m .done [BitVec.ofNat 8 r.2]

/-- R167: SERVICE_SET. -/
def State.takeServiceSet (s : State) (m : ControlMessage) : State :=
  let v := octetAt m.octets 4
  if v = 0 ∨ v = 1 then (s.modManagement (fun u => { u with serviceOn := v == 1 })).reply m .done [v]
  else s.reject m .badValue

/-- R168: RESTART. The answer carries the restart mark. -/
def State.takeRestart (s : State) (m : ControlMessage) : State :=
  (s.modManagement (fun u => { u with restartTakenAt := some s.time.milliseconds })).offerAnswer
    (octetAt m.octets 0) (octetAt m.octets 1) .done [] true true

/-- The handling of a message that passed every check of R159. -/
def State.handleMessage (s : State) (m : ControlMessage) : MessageKind → State
  | .echo => s.takeEcho m
  | .tableRead => s.takeTableRead m
  | .tableWrite => s.takeTableWrite m
  | .assocOpen => s.takeAssocOpen m
  | .assocClose => s.takeAssocClose m
  | .assocResume => s.takeAssocResume m
  | .keyOffer => s.takeKeyOffer m
  | .keySwitch => s.takeKeySwitch m
  | .keyWithdraw => s.takeKeyWithdraw m
  | .monitorClear => s.takeMonitorClear m
  | .reportAck => s.takeReportAck m
  | .serviceSet => s.takeServiceSet m
  | .restart => s.takeRestart m

/-! ## The taking (R158, R159) -/

/-- R159: the checks of a message, in their order: its kind, or the code of the first check that fails. -/
def State.messageCheck (s : State) (m : ControlMessage) : Except Completion MessageKind :=
  if m.octets.length < 4 ∨ 512 < m.octets.length ∨ (word16At m.octets 2).toNat ≠ m.octets.length - 4 then
    .error .badLength
  else
    match MessageKind.ofCode (octetAt m.octets 0) with
    | none => .error .badKind
    | some k =>
      if s.management.restartTakenAt.isSome ∧ k ≠ .echo then .error .busy
      else if k.allowsLength (m.octets.length - 4) then .ok k
      else .error .badLength

/-- R158, R159: a message that has left the inbox is checked and handled. -/
def State.takeMessage (s : State) (m : ControlMessage) : State :=
  match s.messageCheck m with
  | .error c => s.reject m c
  | .ok k => s.handleMessage m k

/-- R158: the taking of the inbox's head. -/
def State.takeHead (s : State) : State :=
  match s.management.inbox with
  | [] => s
  | m :: l => (s.modManagement (fun u => { u with inbox := l })).takeMessage m

/-- R158: a message can be taken. -/
def State.canTake (s : State) : Bool := !s.management.answerOutstanding && !s.management.inbox.isEmpty

/-! ## The end of an event (R44, R158) -/

/-- R44, R158: takings and arbiter choices, as long as one is possible. Where both are, either may come first: a free
choice (log entry 3). Each round takes one message or one item; `fuel` bounds them. The round of an item holds its admission
or refusal, so that these come before the message whose taking the item's leaving allows (log entry 40). -/
def State.settleWith (s : State) : Nat → State
  | 0 => s
  | fuel + 1 =>
    if s.canTake then
      match s.arbiterChoice with
      | none => s.takeHead.settleWith fuel
      | some c => if s.choice then s.spendChoice.takeHead.settleWith fuel else (s.spendChoice.serve c).settleWith fuel
    else
      match s.arbiterChoice with
      | none => s
      | some c => (s.serve c).settleWith fuel

/-- More rounds than an event can need: every waiting message and item once, and room for what they add. -/
def State.settleFuel (s : State) : Nat :=
  s.management.inbox.length + s.engine.outbound.length + s.engine.inbound.length + s.engine.unwrap.length + 256

/-- R44, R158: an event settles. -/
def State.settle (s : State) : State := s.settleWith s.settleFuel

/-- R157, R158: a message arrives at the Control Inbox and the event settles (log entry 8). -/
def State.receiveMessage (s : State) (m : ControlMessage) : State := (s.joinInbox m).settle

end Sys2Proof.Machine
end

