-- ==== Sys2Proof/Machine/Gates.lean ====
section
/-! DEFINITION. When an event can happen: while the part runs (R173), while control messages can reach it (R9), while the
trunk clock runs (R95 to R97), when a timer has come to its deadline (R172). An event that cannot happen leaves the state
unchanged (log entry 9). -/

namespace Sys2Proof.Machine

/-- What a command answers. -/
abbrev Result := Host.Outcome State Fault Refusal

/-- An event of the part, taken while it runs and where its condition holds (R173; log entry 9). -/
def State.event (s : State) (condition : Bool) (f : State → State) : Result :=
  .next (if s.power.running && condition then f s else s)

/-- R9: control messages reach the part: association 0 is LIVE. With the boot epoch spent it is PENDING, and none does. -/
def State.hears (s : State) : Bool := (s.assoc 0).state == .live

/-- A control message's arrival, while control messages can reach the part (R9; log entries 8 and 9). -/
def State.messageEvent (s : State) (m : ControlMessage) : Result := s.event s.hears (fun s => s.receiveMessage m)

/-- R95, R172: an edge of the trunk clock restarts the clock-loss measure. -/
def State.clockEdge (s : State) : State :=
  s.modAccess (fun x => { x with clockDeadline := some (s.time.milliseconds + 1) })

/-- R97: the trunk clock runs: no loss is detected. -/
def State.clockRuns (s : State) : Bool := s.access.clockDeadline.isSome

/-- An event of the trunk lines, timed by the trunk clock (R62, R77, R97). -/
def State.lineEvent (s : State) (condition : Bool) (f : State → State) : Result :=
  s.event (s.clockRuns && condition) (fun s => f s.clockEdge)

/-! ## Timers (R172) -/

/-- A timer: the command that is its expiry, and its deadline. -/
abbrev Timer := Instr × Nat

/-- A timer that runs under a condition and where its deadline is present. -/
def timersOf (c : Instr) (runs : Bool) (deadline : Option Nat) : List Timer :=
  if runs then deadline.toList.map (fun t => (c, t)) else []

/-- The timers on the seconds count of an association: its banks' drain deadlines and its renew-request timer. -/
def State.assocTimers (s : State) (a : AssocId) : List Timer :=
  timersOf (.drainDeadlineExpiry a .bankA) ((s.bank a .bankA).state == .draining) (s.bank a .bankA).drainDeadline ++
    timersOf (.drainDeadlineExpiry a .bankB) ((s.bank a .bankB).state == .draining) (s.bank a .bankB).drainDeadline ++
    timersOf (.renewRequestTimerExpiry a) true (s.assoc a).renewDeadline

/-- The timers on the seconds count of a monitor: its startup inhibit and its period. -/
def State.monitorTimers (s : State) (m : MonitorId) : List Timer :=
  timersOf (.startupInhibitExpiry m) ((s.monitor m).state == .inhibited) (some (s.monitor m).config.startupInhibit.toNat) ++
    timersOf (.monitorSample m) (s.monitor m).state.samples (s.monitor m).nextSample

/-- R171, R172: the timers on the seconds count, and the Association Store's own event of a second that another event of
that second preceded (log entry 35). -/
def State.secondsTimers (s : State) : List Timer :=
  timersOf .timeBaseSecond s.time.storeWaits (some s.now) ++
    ((List.finRange 32).flatMap s.assocTimers ++ (List.finRange 16).flatMap s.monitorTimers)

/-- R168: the deadline of the pending restart's limit. -/
def State.restartDeadline (s : State) : Option Nat := s.management.restartTakenAt.map (fun t => t + 2000)

/-- R172: the timers on the millisecond count, but for the clock-loss measure, which edges of the trunk clock restart. -/
def State.millisecondTimers (s : State) : List Timer :=
  timersOf .restartLimitExpiry true s.restartDeadline ++
    timersOf .standoffExpiry (s.access.state == .standoff) s.access.standoffDeadline ++
    s.reports.records.flatMap (fun r => timersOf (.ackDeadlineExpiry r.number) (r.state == .inFlight) r.ackDeadline) ++
    timersOf .pacingTimerExpiry true s.reports.pacingDeadline ++
    timersOf .retryTimerExpiry true s.reports.retryDeadline

/-- R172: at two readings of the counts no deadline would have been passed. A timer expires at the increase that brings
its count to its deadline, so that no count goes beyond the deadline of a timer that runs (log entry 6). -/
def State.passesNone (s : State) (milliseconds seconds : Nat) : Bool :=
  s.millisecondTimers.all (fun x => decide (milliseconds ≤ x.2)) && s.secondsTimers.all (fun x => decide (seconds ≤ x.2))

/-- R171, R172: the millisecond count can come to a reading: it has, or no Time Base second and no deadline comes before
it (log entry 6). -/
def State.mayReach (s : State) (t : Nat) : Bool :=
  decide (t ≤ s.time.milliseconds) ||
    ((decide (t ≤ 1000 * (s.now + 1)) || s.time.seconds == 4294967295) && s.passesNone t (s.now + 1))

/-- R171: the seconds count can increase: no deadline lies before the next Time Base second (R172; log entry 6), and the
Association Store has taken the present one; saturated, the count makes no further one (log entry 10). -/
def State.mayTurn (s : State) : Bool := s.time.seconds != 4294967295 && s.passesNone (1000 * (s.now + 1)) (s.now + 1)

/-- R172: a timer on the millisecond count can expire. -/
def State.expires (s : State) (deadline : Option Nat) : Bool :=
  match deadline with
  | none => false
  | some t => s.mayReach t

/-- R172: the count has come to the deadline of a timer on the millisecond count (log entry 6). -/
def State.reachDeadline (s : State) (deadline : Option Nat) : State := s.reach (deadline.getD 0)

/-- R172: a timer on the seconds count can expire: the count has come to its deadline, or comes to it with the next increase,
which can come now. -/
def State.secondExpires (s : State) (deadline : Option Nat) : Bool :=
  match deadline with
  | none => false
  | some t => decide (t ≤ s.now) || (decide (t = s.now + 1) && s.mayTurn)

/-- R172: the seconds count has come to the deadline of a timer on it. Where the expiry is the first event of its second, it
brings the increase, and the Association Store takes the second after it (R124; log entry 35). -/
def State.reachSecond (s : State) (deadline : Option Nat) : State :=
  if deadline.getD 0 ≤ s.now then s else s.newSecond

/-- R172: the timers whose deadline their count has come to. -/
def State.dueTimers (s : State) : List Timer :=
  s.millisecondTimers.filter (fun x => decide (x.2 ≤ s.time.milliseconds)) ++
    s.secondsTimers.filter (fun x => decide (x.2 ≤ s.now))

/-- R172: the expiry that comes next where a timer has come to its deadline: any of those that are due, a free choice
(log entry 11). -/
def State.dueExpiry (s : State) : Option Instr :=
  (s.dueTimers[Config.firstExpiry s.free % s.dueTimers.length]?).map (fun x => x.1)

end Sys2Proof.Machine
end

