-- ==== Sys2Proof/Machine/Completions.lean ====
section
/-! DEFINITION. The meanings of the three engine completions (R51, R53 to R57, R59). The arbiter chooses at that same event
(R44), and messages are taken as R158 says. -/

namespace Sys2Proof.Machine

/-- R51: the outbound item in progress completes. -/
def State.outboundDone (s : State) : State :=
  match s.engine.current with
  | some (.outbound a b c f) => (s.completeOutbound a b c f).settle
  | _ => s

/-- The meaning of OUTBOUND_COMPLETION (R51). -/
def execOutboundCompletion (s : State) : Result := s.event true State.outboundDone

/-- R53 to R57: the inbound item in progress completes. DESIGN CHOICE: its message joins the Control Inbox before a message
is taken at the same event, so that a full inbox counts INBOX_DROP (R57, R157; log entry 34). -/
def State.inboundDone (s : State) : State :=
  match s.engine.current with
  | some (.inbound i plaintext tag) => (s.completeInbound i plaintext tag).settle
  | _ => s

/-- The meaning of INBOUND_COMPLETION (R53). -/
def execInboundCompletion (s : State) : Result := s.event true State.inboundDone

/-- R59, R104: the unwrap item in progress completes. -/
def State.unwrapDone (s : State) : State :=
  match s.engine.current with
  | some (.unwrap i key checkPasses) => (s.completeUnwrap i key checkPasses).settle
  | _ => s

/-- The meaning of UNWRAP_COMPLETION (R104). -/
def execUnwrapCompletion (s : State) : Result := s.event true State.unwrapDone

end Sys2Proof.Machine
end

