-- ==== Sys2Proof/Machine/Messages.lean ====
section
/-! DEFINITION. The meanings of the management commands: each spells a control message, which joins the Control Inbox and
is taken as R158 says (log entry 8), while control messages can reach the part (R9). What the taking does stands in Machine/Management.lean. -/

namespace Sys2Proof.Machine

/-- The meaning of CONTROL_MESSAGE_INVALID (R159). -/
def execControlMessageInvalid (via : Carrier) (octets : List Byte) (s : State) : Result :=
  s.messageEvent { octets := octets, via := via }

/-- The meaning of ECHO (R161). -/
def execEcho (via : Carrier) (tag : Byte) (body : List Byte) (s : State) : Result :=
  s.messageEvent (echoMessage via tag body)

/-- The meaning of TABLE_READ (R162). -/
def execTableRead (via : Carrier) (tag table first count : Byte) (s : State) : Result :=
  s.messageEvent (tableReadMessage via tag table first count)

/-- The meaning of TABLE_WRITE to FLOW, table 1 (R33). -/
def execTableWriteFlow (via : Carrier) (tag first count : Byte) (entries : List Byte) (s : State) : Result :=
  s.messageEvent (tableWriteMessage via tag 1 first count entries)

/-- The meaning of TABLE_WRITE to ASSOC_CONFIG, table 2 (R164). -/
def execTableWriteAssocConfig (via : Carrier) (tag first count : Byte) (entries : List Byte) (s : State) : Result :=
  s.messageEvent (tableWriteMessage via tag 2 first count entries)

/-- The meaning of TABLE_WRITE to MONITOR, table 4 (R131). -/
def execTableWriteMonitor (via : Carrier) (tag first count : Byte) (entries : List Byte) (s : State) : Result :=
  s.messageEvent (tableWriteMessage via tag 4 first count entries)

/-- The meaning of TABLE_WRITE to SETTINGS, table 6 (R170). -/
def execTableWriteSettings (via : Carrier) (tag first count : Byte) (entries : List Byte) (s : State) : Result :=
  s.messageEvent (tableWriteMessage via tag 6 first count entries)

/-- The meaning of ASSOC_OPEN (R4, R165). -/
def execAssocOpen (via : Carrier) (tag assoc : Byte) (s : State) : Result :=
  s.messageEvent (oneOctetMessage .assocOpen via tag assoc)

/-- The meaning of ASSOC_CLOSE (R5, R165). -/
def execAssocClose (via : Carrier) (tag assoc : Byte) (s : State) : Result :=
  s.messageEvent (oneOctetMessage .assocClose via tag assoc)

/-- The meaning of ASSOC_RESUME (R8, R165). -/
def execAssocResume (via : Carrier) (tag assoc : Byte) (s : State) : Result :=
  s.messageEvent (oneOctetMessage .assocResume via tag assoc)

/-- The meaning of KEY_OFFER (R101). -/
def execKeyOffer (via : Carrier) (tag assoc : Byte) (generation : W16) (wrapped : Key) (wrapCheck : BitVec 64)
    (s : State) : Result :=
  s.messageEvent (keyOfferMessage via tag assoc generation wrapped wrapCheck)

/-- The meaning of KEY_SWITCH (R106). -/
def execKeySwitch (via : Carrier) (tag assoc : Byte) (generation : W16) (s : State) : Result :=
  s.messageEvent (keyMessage .keySwitch via tag assoc generation)

/-- The meaning of KEY_WITHDRAW (R109). -/
def execKeyWithdraw (via : Carrier) (tag assoc : Byte) (generation : W16) (s : State) : Result :=
  s.messageEvent (keyMessage .keyWithdraw via tag assoc generation)

/-- The meaning of MONITOR_CLEAR (R139, R166). -/
def execMonitorClear (via : Carrier) (tag monitor : Byte) (s : State) : Result :=
  s.messageEvent (oneOctetMessage .monitorClear via tag monitor)

/-- The meaning of REPORT_ACK (R152, R166). -/
def execReportAck (via : Carrier) (tag : Byte) (numbers : List W16) (s : State) : Result :=
  s.messageEvent (reportAckMessage via tag numbers)

/-- The meaning of SERVICE_SET (R167). -/
def execServiceSet (via : Carrier) (tag value : Byte) (s : State) : Result :=
  s.messageEvent (oneOctetMessage .serviceSet via tag value)

/-- The meaning of RESTART (R168). -/
def execRestart (via : Carrier) (tag : Byte) (s : State) : Result :=
  s.messageEvent (restartMessage via tag)

/-- The meaning of a TABLE_WRITE that names no writable table (R163). -/
def execTableWriteBadTable (via : Carrier) (tag table first count : Byte) (entries : List Byte) (s : State) : Result :=
  s.messageEvent (tableWriteMessage via tag table first count entries)

end Sys2Proof.Machine
end

