-- ==== Sys2Proof/Machine/Power.lean ====
section
/-! DEFINITION. Resets and start-up (R173 to R176): the state of the blocks after reset, the reset conditions, the soft
reset, the boot epoch and the start-up steps, with the meanings of RESET_CONDITION, START_UP and
RESTART_LIMIT_EXPIRY. -/

namespace Sys2Proof.Machine

/-! ## The state after reset (R173) -/

/-- R37, R61, R78, R79, R98, R121, R140, R156, R169: every block in its state after reset. The commands that wait, the
Provisioning Store, the identity, the power state and the pins PACE and MAC-side ready stay. -/
def State.blocksAfterReset (s : State) : State :=
  { s with
    time := { milliseconds := 0, seconds := 0, storeWaits := false }
    assocs := Vector.ofFn defaultAssoc
    stationCounters := Vector.replicate 15 0
    shop := defaultShopPort s.shop.macReady
    flow := Vector.replicate 48 defaultFlowEntry
    engine := defaultEngine
    sendQueue := defaultSendQueue
    access := defaultAccess s.access.pace
    receiver := defaultReceiver
    monitors := Vector.replicate 16 defaultMonitor
    reports := defaultReports
    management := defaultManagement }

/-- The part is held in reset; the cause is what the next start-up records. -/
def State.heldInReset (s : State) (cause : ResetCause) : State :=
  { s.blocksAfterReset with power := { s.power with running := false, cause := cause } }

/-- R168, R173: the soft reset. START_UP comes next. -/
def State.softReset (s : State) : State := s.heldInReset .soft

/-! ## Reset conditions (R173) -/

/-- A reset condition is present. -/
def PowerState.isPresent (p : PowerState) : ResetCondition → Bool
  | .power => p.powerPresent
  | .brownout => p.brownoutPresent
  | .pin => p.pinPresent

/-- A reset condition arises or ends. -/
def PowerState.setPresent (p : PowerState) (c : ResetCondition) (b : Bool) : PowerState :=
  match c with
  | .power => { p with powerPresent := b }
  | .brownout => { p with brownoutPresent := b }
  | .pin => { p with pinPresent := b }

/-- Some reset condition lasts. -/
def PowerState.anyPresent (p : PowerState) : Bool := p.powerPresent || p.brownoutPresent || p.pinPresent

/-- R173: a reset condition arises: the part is held in reset. -/
def State.conditionArises (s : State) (c : ResetCondition) : State :=
  { s.heldInReset s.power.cause with power := { s.power.setPresent c true with running := false } }

/-- R173: a reset condition ends; the cause recorded is that of the condition that ended last. -/
def State.conditionEnds (s : State) (c : ResetCondition) : State :=
  if s.power.isPresent c then { s with power := { s.power.setPresent c false with cause := causeOf c } } else s

/-- The meaning of RESET_CONDITION (R173). -/
def execResetCondition (condition : ResetCondition) (present : Bool) (s : State) : Result :=
  .next (if present then s.conditionArises condition else s.conditionEnds condition)

/-! ## Start-up (R174, R175) -/

/-- R175: the epoch is spent. -/
def Provisioning.spent (p : Provisioning) : Bool := decide (65534 ≤ p.epoch.toNat)

/-- R175: the one write of step 2. -/
def Provisioning.advance (p : Provisioning) : Provisioning := if p.spent then p else { p with epoch := p.epoch + 1 }

/-- R9: association 0 as start-up builds it, `p` being the store before step 2. R9 has the selector name A beside the boot
key; that it is A too where the epoch is spent and association 0 is PENDING is DESIGN CHOICE: log entry 39. -/
def bootAssoc (p : Provisioning) : Assoc :=
  if p.spent then { defaultAssoc 0 with state := .pending }
  else
    { defaultAssoc 0 with
      state := .live
      bankA := installedBank .active p.advance.epoch (bootKey p p.advance.epoch) }

/-- R174 steps 1 to 8. -/
def State.bootSteps (s : State) (straps : BitVec 3) (pace : Pace) : State :=
  { s.blocksAfterReset.setAssoc 0 (bootAssoc s.provisioning) with
    provisioning := s.provisioning.advance
    identity := { station := straps, cause := s.power.cause }
    access := defaultAccess pace
    power := { s.power with running := true } }

/-- R155, R174 step 9: the RESTART report. -/
def restartReport (cause : ResetCause) : Report where
  kind := .restart
  severity := 2
  source := .absent
  value := some (cause.code.zeroExtend 32)

/-- R174: a start-up that reaches its last step, and the send attempt and arbiter choice that follow. -/
def State.completeStartUp (s : State) (straps : BitVec 3) (pace : Pace) : State :=
  ((s.bootSteps straps pace).handReport (restartReport s.power.cause)).settle

/-- R173 to R175: a start-up and how far it gets. -/
def State.startUp (s : State) (straps : BitVec 3) (pace : Pace) : StartUpOutcome → State
  | .completed => s.completeStartUp straps pace
  | .abandonedBeforeWrite c => s.conditionArises c
  | .abandonedAfterWrite c => { s with provisioning := s.provisioning.advance }.conditionArises c

/-- R173: start-up begins: the part is held and no reset condition lasts. -/
def State.startUpDue (s : State) : Bool := !s.power.running && !s.power.anyPresent

/-- The meaning of START_UP (R174). -/
def execStartUp (straps : BitVec 3) (pace : Pace) (outcome : StartUpOutcome) (s : State) : Result :=
  .next (if s.startUpDue then s.startUp straps pace outcome else s)

/-! ## The restart limit (R168) -/

/-- The meaning of RESTART_LIMIT_EXPIRY (R168). -/
def execRestartLimitExpiry (s : State) : Result := s.event (s.expires s.restartDeadline) State.softReset

end Sys2Proof.Machine
end

