-- ==== Sys2Proof/Machine/Receiver.lean ====
section
/-! DEFINITION. The Trunk Receiver: framing (R67, R68), the nine pre-checks of an arrival (R69 to R76) and clock loss
(R77), with the meanings of its four commands. -/

namespace Sys2Proof.Machine

/-! ## Framing -/

/-- What an octet comes to beside the receiver's own state: nothing, a frame dropped at framing, a frame's arrival. -/
inductive FramingEffect where
  | nothing
  | dropped
  | arrival (contents : List Byte)
  deriving DecidableEq, Repr

/-- R67, R68: an octet is stored, or the frame is too long. -/
def Receiver.store (r : Receiver) (o : Byte) : Receiver × FramingEffect :=
  if 1538 ≤ r.staging.length then ({ state := .discard, staging := [] }, .dropped)
  else ({ state := .frame, staging := r.staging ++ [o] }, .nothing)

/-- R67: an octet in OPEN. -/
def Receiver.openOctet (r : Receiver) (o : Byte) : Receiver × FramingEffect :=
  if o = delimiter then (r, .nothing)
  else if o = escapeOctet then ({ state := .escaped, staging := [] }, .nothing)
  else if o = 0xFF then ({ state := .hunt, staging := [] }, .nothing)
  else ({ state := .frame, staging := [o] }, .nothing)

/-- R67, R68, R69: an octet in FRAME. -/
def Receiver.frameOctet (r : Receiver) (o : Byte) : Receiver × FramingEffect :=
  if o = delimiter then
    ({ state := .opened, staging := [] }, if r.staging.length < 20 then .dropped else .arrival r.staging)
  else if o = escapeOctet then ({ r with state := .escaped }, .nothing)
  else r.store o

/-- R67, R68: an octet in ESCAPED. -/
def Receiver.escapedOctet (r : Receiver) (o : Byte) : Receiver × FramingEffect :=
  if o = delimiter then ({ state := .opened, staging := [] }, .nothing)
  else if o = 0xD9 then r.store delimiter
  else if o = 0xDA then r.store escapeOctet
  else ({ state := .discard, staging := [] }, .dropped)

/-- R67: one octet of the receive line. In HUNT the receiver takes no octets. -/
def Receiver.takeOctet (r : Receiver) (o : Byte) : Receiver × FramingEffect :=
  match r.state with
  | .hunt => (r, .nothing)
  | .opened => r.openOctet o
  | .frame => r.frameOctet o
  | .escaped => r.escapedOctet o
  | .discard => if o = delimiter then ({ state := .opened, staging := [] }, .nothing) else (r, .nothing)

/-- R77: the receiver at a trunk clock loss, and whether a frame in reception is counted MALFORMED. -/
def Receiver.cutsFrame (r : Receiver) : Bool := r.state == .frame || r.state == .escaped

/-! ## The pre-checks (R69 to R76) -/

/-- R70: the channel of a frame. -/
def channelOf (c : List Byte) : AssocId := Fin.ofNat 32 ((octetAt c 1).toNat % 32)

/-- R70: the kind of a frame. -/
def frameKindOf (c : List Byte) : Nat := (octetAt c 1).toNat / 32

/-- R70: the destination of a frame. -/
def destinationOf (c : List Byte) : Nat := (octetAt c 0).toNat / 16

/-- R70: the generation of a frame. -/
def generationOf (c : List Byte) : W16 := word16At c 2

/-- R70: the sequence of a frame. -/
def sequenceOf (c : List Byte) : W32 := word32At c 4

/-- R70: L. -/
def lengthOf (c : List Byte) : Nat := (word16At c 8).toNat

/-- R69, test 1: the check of R66 over all octets but the last two equals those two. -/
def trunkCheckPasses (c : List Byte) : Bool :=
  trunkCheckOctets (c.take (c.length - 2)) == c.drop (c.length - 2)

/-- R70, test 2. -/
def formPasses (c : List Byte) : Bool :=
  frameKindOf c == 0 && sequenceOf c != 0 && decide (lengthOf c ≤ 1518) && c.length == lengthOf c + 20

/-- R74: the bank that holds a generation in a usable state. -/
def Assoc.bankFor (r : Assoc) (g : W16) : Option BankId :=
  if r.bankA.usableFor g then some .bankA else if r.bankB.usableFor g then some .bankB else none

/-- R76: the inbound item of a frame. -/
def inItemOf (c : List Byte) (b : BankId) : InItem where
  assoc := channelOf c
  bank := b
  generation := generationOf c
  sequence := sequenceOf c
  header := c.take 10
  ciphertext := (c.drop 10).take (lengthOf c)
  tag := (c.drop (10 + lengthOf c)).take 8

/-- R74 to R76, tests 7 to 9; the arbiter chooses when the item joins (R44). -/
def State.frameForBank (s : State) (c : List Byte) : State :=
  let a := channelOf c
  match (s.assoc a).bankFor (generationOf c) with
  | none => s.countAssoc a .staleGen
  | some b =>
    if !(s.bank a b).accepts (sequenceOf c) then s.countAssoc a .replay
    else if 16 ≤ s.engine.inbound.length then s.countAssoc a .queueDrop
    else (s.joinInbound (inItemOf c b)).settle

/-- R73: the states an arriving frame passes in. -/
def AssocState.receives : AssocState → Bool
  | .live => true
  | .pending => true
  | .vacant => false
  | .suspended => false
  | .closing => false

/-- R69 to R76: the nine tests in their order; the first that fails decides. -/
def State.trunkFrame (s : State) (c : List Byte) : State :=
  let a := channelOf c
  if !trunkCheckPasses c then s.countStation .crcBad
  else if !formPasses c then s.countStation .malformed
  else if destinationOf c ≠ s.identity.station.toNat ∧ destinationOf c ≠ 15 then s
  else if destinationOf c = 15 ∧ a = 0 then s.countStation .misaddressed
  else if a ≠ 0 ∧ s.management.serviceOn = false then s.countStation .serviceDrop
  else if ¬((s.assoc a).state.receives = true ∧ (s.assoc a).direction.allowsInbound = true) then
    s.countAssoc a .stateDrop
  else s.frameForBank c

/-! ## Octets at the state -/

/-- R68, R69: what an octet comes to beyond the receiver. -/
def State.framingEffect (s : State) : FramingEffect → State
  | .nothing => s
  | .dropped => s.countStation .malformed
  | .arrival c => s.trunkFrame c

/-- R67 to R69: the receiver takes one octet. -/
def State.receiveOctet (s : State) (o : Byte) : State :=
  (s.modReceiver (fun _ => (s.receiver.takeOctet o).1)).framingEffect (s.receiver.takeOctet o).2

/-- R77: the receiver at a trunk clock loss. -/
def State.receiverClockLoss (s : State) : State :=
  (if s.receiver.cutsFrame then s.countStation .malformed else s).modReceiver (fun _ => defaultReceiver)

/-- The meaning of TRUNK_FRAMING_DROP (R68): the octet at which the frame is dropped. -/
def execTrunkFramingDrop (octet : Byte) (s : State) : Result :=
  s.lineEvent ((s.receiver.takeOctet octet).2 == .dropped) (fun s => s.receiveOctet octet)

/-- R69: the closing delimiter of a frame of 20 to 1538 octets is due. -/
def Receiver.arrivalDue (r : Receiver) : Bool :=
  r.state == .frame && decide (20 ≤ r.staging.length) && decide (r.staging.length ≤ 1538)

/-- The meaning of TRUNK_FRAME_ARRIVAL (R69): the closing delimiter. -/
def execTrunkFrameArrival (s : State) : Result :=
  s.lineEvent s.receiver.arrivalDue (fun s => s.receiveOctet delimiter)

/-- The meaning of HUNT_DELIMITER_FOUND (R67). -/
def execHuntDelimiterFound (s : State) : Result :=
  s.lineEvent (s.receiver.state == .hunt) (fun s => s.modReceiver (fun _ => { state := .opened, staging := [] }))

/-- The meaning of TRUNK_RECEIVE_OCTET (R67), for whatever octet comes. -/
def execTrunkReceiveOctet (octet : Byte) (s : State) : Result :=
  s.lineEvent (s.receiver.state != .hunt) (fun s => s.receiveOctet octet)

end Sys2Proof.Machine
end

