-- ==== Sys2Proof/Machine/ShopPort.lean ====
section
/-! DEFINITION. The Shop Port and the Flow Classifier: reception (R22 to R26), classification (R28 to R32) and
transmission (R36), with the meanings of their three commands. -/

namespace Sys2Proof.Machine

/-! ## Reception -/

/-- R23: the length and check tests. -/
def shopFramePasses (frame : List Byte) (errorMarked : Bool) : Bool :=
  decide (64 ≤ frame.length) && decide (frame.length ≤ 1522) && !errorMarked &&
    frameCheckOctets (frame.take (frame.length - 4)) == frame.drop (frame.length - 4)

/-- R26: the three values a plaintext is matched on. -/
def parseFrame (p : List Byte) : Parsed :=
  if word16At p 12 = 0x8100 then
    { destination := word48At p 0, lane := some ((word16At p 14).extractLsb' 0 12), ethertype := word16At p 16 }
  else { destination := word48At p 0, lane := none, ethertype := word16At p 12 }

/-! ## Classification -/

/-- R28: a lane pattern matches. -/
def laneMatches (pattern : W16) (lane : Option (BitVec 12)) : Bool :=
  if pattern = 0xF000 then true
  else if pattern = 0xF001 then lane.isNone
  else
    match lane with
    | none => false
    | some v => v.zeroExtend 16 == pattern

/-- R28: an entry matches a frame. -/
def FlowEntry.accepts (e : FlowEntry) (p : Parsed) : Bool :=
  e.valid && laneMatches e.laneMatch p.lane && (!e.ethertypeGiven || e.ethertype == p.ethertype) &&
    (!e.destinationGiven || e.destination == p.destination)

/-- R29: the position of the first entry that matches. -/
def State.firstMatch (s : State) (p : Parsed) : Option (Fin 48) :=
  (List.finRange 48).find? (fun i => (s.flowEntry i).accepts p)

/-- R30: a hit is counted. -/
def State.countHit (s : State) (i : Fin 48) : State :=
  s.setFlow i { s.flowEntry i with hits := satInc (s.flowEntry i).hits }

/-- R31, R32: a PROTECT entry's frame reaches its association; the arbiter chooses when the item joins (R44). -/
def State.protectFrame (s : State) (a : AssocId) (plaintext : List Byte) : State :=
  if ¬((s.assoc a).state = .live ∧ (s.assoc a).direction.allowsOutbound = true) then s.countAssoc a .stateDrop
  else if 16 ≤ s.engine.outbound.length then s.countAssoc a .queueDrop
  else (s.joinOutbound { assoc := a, plaintext := plaintext, restartMark := false, setsMark := false }).settle

/-- R29 to R32: classification of a plaintext. Action 0 is DISCARD (R179). -/
def State.classify (s : State) (plaintext : List Byte) : State :=
  match s.firstMatch (parseFrame plaintext) with
  | none => s.countStation .unmatched
  | some i =>
    if (s.flowEntry i).action = 0 then s.countHit i
    else (s.countHit i).protectFrame (Fin.ofNat 32 (s.flowEntry i).association.toNat) plaintext

/-- R22 to R25: a frame's arrival: the buffer's octets and those received since. The buffer is then empty. -/
def State.shopFrame (s : State) (octets : List Byte) (errorMarked : Bool) : State :=
  let frame := s.shop.receive ++ octets
  let s := s.modShop (fun p => { p with receive := [] })
  if !shopFramePasses frame errorMarked then s.countStation .shopBad
  else if !s.management.serviceOn then s.countStation .serviceDrop
  else s.classify (frame.take (frame.length - 4))

/-- The meaning of SHOP_FRAME_ARRIVAL (R22). -/
def execShopFrameArrival (octets : List Byte) (errorMarked : Bool) (s : State) : Result :=
  s.event true (fun s => s.shopFrame octets errorMarked)

/-! ## Transmission -/

/-- R36: the MAC side's ready input changes; in IDLE with a frame waiting and the input ready, transmission of the head
begins. -/
def ShopPort.takeReady (p : ShopPort) (macReady : Bool) : ShopPort := { p with macReady := macReady }.start

/-- The meaning of SHOP_TRANSMIT_START (R36). -/
def execShopTransmitStart (s : State) : Result := s.event true (fun s => s.modShop (fun p => p.takeReady true))

/-- R36: the end of a transmission: the frame leaves, and the next begins when one waits and the MAC side is ready. With no
frame in transmission the ready input alone is taken: DESIGN CHOICE (log entry 17). -/
def ShopPort.finish (p : ShopPort) (macReady : Bool) : ShopPort :=
  match p.transmit with
  | .idle => p.takeReady macReady
  | .sending _ => { p with delivery := p.delivery.tail, transmit := .idle }.takeReady macReady

/-- The meaning of SHOP_TRANSMISSION_END (R36). -/
def execShopTransmissionEnd (macReady : Bool) (s : State) : Result :=
  s.event true (fun s => s.modShop (fun p => p.finish macReady))

end Sys2Proof.Machine
end

