-- ==== Sys2Proof/Machine/Timers.lean ====
section
/-! DEFINITION. The meanings of the Time Base second and of the expiries (R110, R114, R126, R132, R147, R149, R151, R171,
R172), and the passing of a millisecond while no command waits. -/

namespace Sys2Proof.Machine

/-! ## The Time Base (R171) -/

/-- R171: a Time Base second can come to the Association Store: another event of the second has brought the increase of
the count, or the count can increase now. -/
def State.secondDue (s : State) : Bool := s.time.storeWaits || s.mayTurn

/-- R171: the seconds count increases, unless another event of this second came first; the Association Store takes the
second; and the arbiter chooses when a renewal request joins (R44). -/
def State.passSecond (s : State) : State := ((if s.time.storeWaits then s else s.newSecond).storeSecond).settle

/-- The meaning of TIME_BASE_SECOND (R171). Where another event of the same second came first, the count has increased with
it, and what is left is the Association Store's part (log entry 35). -/
def execTimeBaseSecond (s : State) : Result := s.event s.secondDue State.passSecond

/-- R171: a millisecond passes; at a multiple of 1000 the seconds count increases. What a step does while no command
waits and no timer has come to its deadline (log entry 11). -/
def State.passMillisecond (s : State) : State := s.reach (s.time.milliseconds + 1)

/-! ## Timers on the seconds count -/

/-- R110: the drain deadline of a bank, while it is DRAINING. -/
def State.drainDeadlineOf (s : State) (a : AssocId) (b : BankId) : Option Nat :=
  if (s.bank a b).state = .draining then (s.bank a b).drainDeadline else none

/-- The meaning of DRAIN_DEADLINE_EXPIRY (R110). -/
def execDrainDeadlineExpiry (assoc : AssocId) (bank : BankId) (s : State) : Result :=
  s.event (s.secondExpires (s.drainDeadlineOf assoc bank))
    (fun s => (s.reachSecond (s.drainDeadlineOf assoc bank)).drainExpiry assoc bank)

/-- The meaning of RENEW_REQUEST_TIMER_EXPIRY (R114). -/
def execRenewRequestTimerExpiry (assoc : AssocId) (s : State) : Result :=
  s.event (s.secondExpires (s.assoc assoc).renewDeadline)
    (fun s => ((s.reachSecond (s.assoc assoc).renewDeadline).renewTimerExpires assoc).settle)

/-- R132: the end of a monitor's startup inhibit, while it is INHIBITED. -/
def State.inhibitDeadlineOf (s : State) (m : MonitorId) : Option Nat :=
  if (s.monitor m).state = .inhibited then some (s.monitor m).config.startupInhibit.toNat else none

/-- The meaning of STARTUP_INHIBIT_EXPIRY (R132). -/
def execStartupInhibitExpiry (monitor : MonitorId) (s : State) : Result :=
  s.event (s.secondExpires (s.inhibitDeadlineOf monitor))
    (fun s => (s.reachSecond (s.inhibitDeadlineOf monitor)).inhibitExpires monitor)

/-- R125: the end of a monitor's running period. -/
def State.sampleDeadlineOf (s : State) (m : MonitorId) : Option Nat :=
  if (s.monitor m).state.samples then (s.monitor m).nextSample else none

/-- The meaning of MONITOR_SAMPLE (R126). It may come before or after the Association Store takes the same second, so that it
reads QUIET before or after its advance (R124; log entry 35). -/
def execMonitorSample (monitor : MonitorId) (s : State) : Result :=
  s.event (s.secondExpires (s.sampleDeadlineOf monitor))
    (fun s => ((s.reachSecond (s.sampleDeadlineOf monitor)).takeSample monitor).settle)

/-! ## Timers of the Fault Report Queue, on the millisecond count -/

/-- R151: the IN_FLIGHT record that holds a number. -/
def State.flyingRecord (s : State) (n : W16) : Option ReportRecord :=
  s.reports.records.find? (fun r => r.number == n && r.state == .inFlight)

/-- R151: the ack deadline of the record, absent when no record IN_FLIGHT holds the number. -/
def State.ackDeadlineOf (s : State) (n : W16) : Option Nat := (s.flyingRecord n).bind (fun r => r.ackDeadline)

/-- R151: the record returns, and a send attempt follows. -/
def State.returnRecord (s : State) (n : W16) : State :=
  match s.flyingRecord n with
  | none => s
  | some r => (s.modReports (fun q => { q with records := mergeReturning q.records r })).sendAttempt

/-- The meaning of ACK_DEADLINE_EXPIRY (R151). -/
def execAckDeadlineExpiry (number : W16) (s : State) : Result :=
  s.event (s.expires (s.ackDeadlineOf number))
    (fun s => ((s.reachDeadline (s.ackDeadlineOf number)).returnRecord number).settle)

/-- The meaning of PACING_TIMER_EXPIRY (R149). -/
def execPacingTimerExpiry (s : State) : Result :=
  s.event (s.expires s.reports.pacingDeadline)
    (fun s => (((s.reachDeadline s.reports.pacingDeadline).modReports (fun q => { q with pacingDeadline := none })
      ).sendAttempt).settle)

/-- The meaning of RETRY_TIMER_EXPIRY (R147). -/
def execRetryTimerExpiry (s : State) : Result :=
  s.event (s.expires s.reports.retryDeadline)
    (fun s => (((s.reachDeadline s.reports.retryDeadline).modReports (fun q => { q with retryDeadline := none })
      ).sendAttempt).settle)

end Sys2Proof.Machine
end

