-- ==== Sys2Proof/Machine/TrunkAccess.lean ====
section
/-! DEFINITION. The Trunk Access Controller: the line watch (R83, R84), claims (R86, R87), bursts and releases (R88, R89),
clashes and standoff (R90, R91), deferral (R92), PACE (R93, R94) and the trunk clock (R95 to R97), with the meanings of
its commands. -/

namespace Sys2Proof.Machine

/-! ## The line watch (R83) -/

/-- R83: an octet inside a frame: the octet count, the next state, and the guard at more than 3,076. -/
def Access.insideFrame (x : Access) (next : WatchState) : Access :=
  match next with
  | .boundary => { x with watch := .boundary, octetCount := x.octetCount + 1 }
  | w =>
    if 3076 < x.octetCount + 1 then { x with watch := .rest, idleCount := 0, octetCount := x.octetCount + 1 }
    else { x with watch := w, octetCount := x.octetCount + 1 }

/-- R83: one octet of the transmit line, taken in BOUNDARY, FRAME or ESCAPED. -/
def Access.watchOctet (x : Access) (o : Byte) : Access :=
  match x.watch with
  | .rest => x
  | .claim => x
  | .boundary =>
    if o = 0xFF then { x with watch := .rest, idleCount := 8 }
    else if o = delimiter then x
    else if o = escapeOctet then { x with watch := .escaped, octetCount := 1 }
    else { x with watch := .frame, octetCount := 1 }
  | .frame =>
    if o = delimiter then x.insideFrame .boundary
    else if o = escapeOctet then x.insideFrame .escaped
    else x.insideFrame .frame
  | .escaped => if o = delimiter then x.insideFrame .boundary else x.insideFrame .frame

/-- R83: the line watch has taken `n` station bits of the claim on the line; after the third it is octet-aligned. -/
def Access.takeStationBits (x : Access) (n : Nat) : Access :=
  match x.watch with
  | .claim => if 3 ≤ n then { x with watch := .boundary, stationBits := 0 } else { x with stationBits := n }
  | _ => x

/-- The line watch is inside a frame. -/
def Access.watchesFrame (x : Access) : Bool := x.watch == .frame || x.watch == .escaped

/-- R83: an octet takes the octet count past 3,076 inside a frame. -/
def Access.guardDue (x : Access) (o : Byte) : Bool :=
  x.watchesFrame && decide (3076 < x.octetCount + 1) && o != delimiter

/-- The meaning of LINE_WATCH_GUARD (R83). -/
def execLineWatchGuard (octet : Byte) (s : State) : Result :=
  s.lineEvent (s.access.guardDue octet) (fun s => s.modAccess (fun x => x.watchOctet octet))

/-- The meaning of BUSY_PERIOD_END (R83): the octet 0xFF at a BOUNDARY. -/
def execBusyPeriodEnd (s : State) : Result :=
  s.lineEvent (s.access.watch == .boundary) (fun s => s.modAccess (fun x => x.watchOctet 0xFF))

/-! ## Line-quiet, open-gap, claims by others (R84, R86, R92) -/

/-- R86, R92: the state a controller leaves LISTEN or DEFERRED for. -/
def SendQueue.turnState (q : SendQueue) : AccessState := if q.nextClass.isSome then .reserved else .idle

/-- R84, R86: line-quiet. -/
def Access.lineQuiet (x : Access) (q : SendQueue) : Access :=
  { x with idleCount := 16, state := if x.state = .listen then q.turnState else x.state }

/-- R84: the idle count has not yet reached 16 in this rest. -/
def Access.quietDue (x : Access) : Bool := x.watch == .rest && decide (x.idleCount < 16)

/-- The meaning of LINE_QUIET (R84): the 1 bits up to the one at which the idle count reaches 16 (log entry 13). A RESERVED
station's claim is CLAIM_START, at the next bit-time. -/
def execLineQuiet (s : State) : Result :=
  s.lineEvent s.access.quietDue (fun s => s.modAccess (fun x => x.lineQuiet s.sendQueue))

/-- R84: the line is quiet. -/
def Access.quiet (x : Access) : Bool := x.watch == .rest && decide (16 ≤ x.idleCount)

/-- R92: an open-gap counted in DEFERRED. -/
def Access.countGap (x : Access) (q : SendQueue) : Access :=
  match x.state with
  | .deferred =>
    { x with openGaps := x.openGaps + 1, state := if 2 ≤ x.openGaps + 1 then q.turnState else .deferred }
  | _ => x

/-- R84: the idle count at the next open-gap. -/
def nextGap (idle : Nat) : Nat := 16 * (idle / 16 + 1)

/-- R84, R92: open-gap. -/
def Access.openGap (x : Access) (q : SendQueue) : Access := { x with idleCount := nextGap x.idleCount }.countGap q

/-- The meaning of OPEN_GAP (R92): the 1 bits up to the one at which the idle count reaches its next multiple of 16 (log
entry 13). -/
def execOpenGap (s : State) : Result :=
  s.lineEvent s.access.quiet (fun s => s.modAccess (fun x => x.openGap s.sendQueue))

/-- R83, R84: a 1 bit in REST: the idle count, with line-quiet where it reaches 16 and open-gap at each further multiple
of 16. -/
def Access.idleBit (x : Access) (q : SendQueue) : Access :=
  if x.idleCount + 1 = 16 then x.lineQuiet q
  else if 16 < x.idleCount + 1 ∧ (x.idleCount + 1) % 16 = 0 then x.openGap q
  else { x with idleCount := x.idleCount + 1 }

/-- R83: what the line watch takes at once. -/
def Access.watchInput (x : Access) (q : SendQueue) : WatchInput → Access
  | .idleBit => x.idleBit q
  | .stationBit => x.takeStationBits (x.stationBits + 1)
  | .thirdStationBit => x.takeStationBits 3
  | .octet o => x.watchOctet o

/-- R83: the line watch takes 1 bits in REST, station bits in CLAIM and octets in BOUNDARY, FRAME and ESCAPED. -/
def Access.takesInput (x : Access) : WatchInput → Bool
  | .idleBit => x.watch == .rest
  | .stationBit => x.watch == .claim
  | .thirdStationBit => x.watch == .claim
  | .octet _ => x.watch == .boundary || x.watchesFrame

/-- The meaning of LINE_WATCH_OCTET (R83), for whatever bit or octet comes. -/
def execLineWatchOctet (input : WatchInput) (s : State) : Result :=
  s.lineEvent (s.access.takesInput input) (fun s => s.modAccess (fun x => x.watchInput s.sendQueue input))

/-- R83, R92: a start bit of another station. -/
def Access.otherClaim (x : Access) : Access :=
  { x with
    watch := .claim
    idleCount := 0
    stationBits := 0
    openGaps := if x.state = .deferred then 0 else x.openGaps }

/-- The meaning of CLAIM_BY_OTHER_STATION (R84). -/
def execClaimByOtherStation (s : State) : Result :=
  s.lineEvent (s.access.watch == .rest) (fun s => s.modAccess Access.otherClaim)

/-! ## The station's own claim (R86, R87) -/

/-- R87: the bits of the claim of a station: a start bit 0 and the station's number, most significant bit first. -/
def claimBits (station : BitVec 3) : List Bool := [false, station.getLsbD 2, station.getLsbD 1, station.getLsbD 0]

/-- R86: a claim may start: the station is RESERVED with PACE at GO and the line is quiet. DESIGN CHOICE where the claim
before it was lost at its start bit by a line fault and the line is still quiet: R86 lets a claim start at the next
bit-time and R87 has it wait for the next line-quiet; the model lets it start (log entry 32). -/
def Access.mayClaim (x : Access) : Bool := x.state == .reserved && x.pace == .go && x.quiet

/-- R86, R87: the start bit of the station's own claim, whose bits are `bits`: the watch takes a 0, or a 1 where the line
does not follow. -/
def Access.startClaim (x : Access) (bits : List Bool) (readsLow : Bool) : Access :=
  if readsLow then
    { x with state := .claiming, watch := .claim, idleCount := 0, stationBits := 0, transmission := .claim bits }
  else { x with state := .claiming, idleCount := x.idleCount + 1, transmission := .claim bits }

/-- The meaning of CLAIM_START (R86). -/
def execClaimStart (readsLow : Bool) (s : State) : Result :=
  s.lineEvent s.access.mayClaim
    (fun s => s.modAccess (fun x => x.startClaim (claimBits s.identity.station) readsLow))

/-- R87: a claim lost at a bit: nothing more is driven of it, and the line watch has taken the claim's bits up to that one.
A claim lost at its start bit by a line fault leaves the watch in REST (log entry 32). -/
def Access.loseClaim (x : Access) (bit : Fin 4) : Access :=
  { x.takeStationBits bit.val with state := .reserved, transmission := .none }

/-- The meaning of CLAIM_LOST (R87). -/
def execClaimLost (bit : Fin 4) (s : State) : Result :=
  s.lineEvent (s.access.state == .claiming)
    (fun s => (s.countStation .claimLoss).modAccess (fun x => x.loseClaim bit))

/-- R81, R88: the next frame's transmission begins, or the burst ends when no place is filled. -/
def SendQueue.nextTransmission (q : SendQueue) (first : Bool) : Transmission :=
  match q.nextClass with
  | none => .ended
  | some c =>
    match q.filled c with
    | [] => .ended
    | f :: _ => .frame c (f.lineOctets first)

/-- R87, R88: a won claim: SENDING and the first frame, or with PACE at HOLD a release without a frame. -/
def Access.winClaim (x : Access) (q : SendQueue) : Access :=
  match x.pace with
  | .hold => { x.takeStationBits 3 with state := .reserved, transmission := .none }
  | .go => { x.takeStationBits 3 with state := .sending, sentInBurst := 0, transmission := q.nextTransmission true }

/-- R87: all four bits can have been read back: the start bit was. -/
def Access.mayWin (x : Access) : Bool := x.state == .claiming && x.watch != .rest

/-- The meaning of CLAIM_WON (R87). -/
def execClaimWon (s : State) : Result :=
  s.lineEvent s.access.mayWin (fun s => s.modAccess (fun x => x.winClaim s.sendQueue))

/-! ## Bursts (R82, R88) -/

/-- The class of the frame in transmission in SENDING. -/
def Access.sendingClass (x : Access) : Option TrafficClass :=
  match x.state, x.transmission with
  | .sending, .frame c _ => some c
  | _, _ => none

/-- R88: the decision at a frame boundary; `q` is the queue without the frame that left. -/
def Access.boundary (x : Access) (q : SendQueue) (limit : Byte) : Access :=
  let n := x.sentInBurst + 1
  { x with
    clashes := 0
    sentInBurst := n
    transmission := if limit.toNat ≤ n ∨ x.pace = .hold then .ended else q.nextTransmission false }

/-- R82, R88, R168: the frame at the head of class `c` leaves. The leaving of the RESTART answer's frame brings the soft
reset; otherwise the burst goes on or ends and the freed place is handed to the engine. -/
def State.frameLeaves (s : State) (c : TrafficClass) (f : SealedFrame) : State :=
  if f.restartMark && s.management.restartTakenAt.isSome then s.softReset
  else
    ((s.modSendQueue (fun q => q.leave c)).modAccess (fun x =>
      x.boundary (s.sendQueue.leave c) s.management.settings.burstLimit)).settle

/-- R82: the end of the frame in transmission. -/
def State.sentFrame (s : State) : State :=
  match s.access.sendingClass with
  | none => s
  | some c =>
    match s.sendQueue.filled c with
    | [] => s
    | f :: _ => s.frameLeaves c f

/-- The meaning of FRAME_SENT (R82). -/
def execFrameSent (s : State) : Result := s.lineEvent s.access.sendingClass.isSome State.sentFrame

/-! ## Clashes and releases (R89 to R91) -/

/-- R90: the clash: the count, and the abort sequence to follow. -/
def Access.clash (x : Access) : Access :=
  { x with clashes := x.clashes + 1, transmission := .aborting .clash abortSequence }

/-- The meaning of CLASH (R90). -/
def execClash (s : State) : Result :=
  s.lineEvent s.access.sendingClass.isSome (fun s => (s.countStation .clash).modAccess Access.clash)

/-- R89, R90: the release is due: the burst has ended or an abort sequence was sent. -/
def Access.releaseDue (x : Access) : Bool :=
  match x.state, x.transmission with
  | .sending, .ended => true
  | .sending, .aborting _ _ => true
  | _, _ => false

/-- R89, R91: the burst was ended by the third consecutive clash. -/
def Access.thirdClash (x : Access) : Bool :=
  match x.transmission with
  | .aborting .clash _ => decide (3 ≤ x.clashes)
  | _ => false

/-- R91: the standoff in milliseconds. -/
def standoffLength (serial : W48) : Nat := 10 * (1 + serial.toNat % 32)

/-- R91: the entry into STANDOFF. -/
def Access.standOff (x : Access) (deadline : Nat) : Access :=
  { x with state := .standoff, clashes := 0, transmission := .none, sentInBurst := 0, standoffDeadline := some deadline }

/-- R89: a release that leads to DEFERRED or RESERVED. -/
def Access.release (x : Access) : Access :=
  if x.sentInBurst = 0 then { x with state := .reserved, transmission := .none }
  else { x with state := .deferred, openGaps := 0, transmission := .none, sentInBurst := 0 }

/-- R91: the STATION_CLASH report. -/
def stationClashReport : Report where
  kind := .stationClash
  severity := 3
  source := .absent
  value := none

/-- R89, R91: the release. -/
def State.releaseBurst (s : State) : State :=
  if s.access.thirdClash then
    ((s.modAccess (fun x => x.standOff (s.time.milliseconds + standoffLength s.provisioning.serial))).handReport
      stationClashReport).settle
  else s.modAccess Access.release

/-- The meaning of BURST_RELEASE (R89). -/
def execBurstRelease (s : State) : Result := s.lineEvent s.access.releaseDue State.releaseBurst

/-- R91: the standoff timer expires. -/
def Access.endStandoff (x : Access) : Access := { x with state := .reserved, standoffDeadline := none }

/-- The meaning of STANDOFF_EXPIRY (R91). -/
def execStandoffExpiry (s : State) : Result :=
  s.event (s.access.state == .standoff && s.expires s.access.standoffDeadline)
    (fun s => (s.reachDeadline s.access.standoffDeadline).modAccess Access.endStandoff)

/-! ## PACE (R93, R94) -/

/-- R93: the abort of a frame by PACE. -/
def Access.paceAbort (x : Access) : Access := { x with pace := .hold, transmission := .aborting .pace abortSequence }

/-- R93: a HOLD before the first bit of the frame that was chosen: no further frame is begun, and the burst ends at that
point with a release. -/
def Access.paceEnd (x : Access) : Access := { x with pace := .hold, transmission := .ended }

/-- R93: a HOLD event. Where a frame is chosen or in transmission, it falls before the frame's first bit, inside the frame,
or in the last octet of its closing delimiter, where the frame still ends (log entry 27). Elsewhere PACE alone changes. -/
def State.hold (s : State) (point : HoldPoint) : State :=
  match s.access.sendingClass, point with
  | some _, .atBoundary => s.modAccess Access.paceEnd
  | some _, .inFrame => (s.countStation .paceAbort).modAccess Access.paceAbort
  | _, _ => s.modAccess (fun x => { x with pace := .hold })

/-- The meaning of PACE_HOLD (R93). -/
def execPaceHold (point : HoldPoint) (s : State) : Result :=
  s.event (s.access.pace == .go) (fun s => s.hold point)

/-- The meaning of PACE_GO (R94). A RESERVED station's claim is CLAIM_START, at the next bit-time. -/
def execPaceGo (s : State) : Result :=
  s.event (s.access.pace == .hold) (fun s => s.modAccess (fun x => { x with pace := .go }))

/-! ## The trunk clock (R95 to R97) -/

/-- R96: the controller at a trunk clock loss. -/
def Access.clockLoss (x : Access) : Access :=
  { x with
    state := .listen
    clashes := 0
    openGaps := if x.state = .deferred then 0 else x.openGaps
    sentInBurst := 0
    transmission := .none
    standoffDeadline := none
    clockDeadline := none }

/-- R95: the TRUNK_CLOCK report. -/
def trunkClockReport : Report where
  kind := .trunkClock
  severity := 3
  source := .absent
  value := none

/-- R95, R96: the detection of a trunk clock loss. -/
def State.clockLost (s : State) : State :=
  ((((s.countStation .clockLoss).modAccess Access.clockLoss).receiverClockLoss).handReport trunkClockReport).settle

/-- The meaning of TRUNK_CLOCK_LOSS (R95). -/
def execTrunkClockLoss (s : State) : Result :=
  s.event (s.expires s.access.clockDeadline) (fun s => (s.reachDeadline s.access.clockDeadline).clockLost)

/-- R83, R97: the line watch at the clock's return. -/
def Access.clockReturns (x : Access) : Access := { x with watch := .rest, idleCount := 0, stationBits := 0 }

/-- The meaning of TRUNK_CLOCK_RETURN (R97). -/
def execTrunkClockReturn (s : State) : Result :=
  s.event (!s.clockRuns) (fun s => s.clockEdge.modAccess Access.clockReturns)

end Sys2Proof.Machine
end

