-- ==== Sys2Proof/Machine/Dispatch.lean ====
section
/-! DEFINITION. The dispatch of a command to its meaning, in the order of the table of operations and events. -/

namespace Sys2Proof.Machine

def exec (i : Instr) (s : State) : Host.Outcome State Fault Refusal :=
  match i with
  | .shopFrameArrival octets errorMarked => Sys2Proof.Machine.execShopFrameArrival octets errorMarked s
  | .shopTransmitStart => Sys2Proof.Machine.execShopTransmitStart s
  | .shopTransmissionEnd macReady => Sys2Proof.Machine.execShopTransmissionEnd macReady s
  | .trunkFramingDrop octet => Sys2Proof.Machine.execTrunkFramingDrop octet s
  | .trunkFrameArrival => Sys2Proof.Machine.execTrunkFrameArrival s
  | .outboundCompletion => Sys2Proof.Machine.execOutboundCompletion s
  | .inboundCompletion => Sys2Proof.Machine.execInboundCompletion s
  | .unwrapCompletion => Sys2Proof.Machine.execUnwrapCompletion s
  | .controlMessageInvalid via octets => Sys2Proof.Machine.execControlMessageInvalid via octets s
  | .echo via tag body => Sys2Proof.Machine.execEcho via tag body s
  | .tableRead via tag table first count => Sys2Proof.Machine.execTableRead via tag table first count s
  | .tableWriteFlow via tag first count entries => Sys2Proof.Machine.execTableWriteFlow via tag first count entries s
  | .tableWriteAssocConfig via tag first count entries => Sys2Proof.Machine.execTableWriteAssocConfig via tag first count entries s
  | .tableWriteMonitor via tag first count entries => Sys2Proof.Machine.execTableWriteMonitor via tag first count entries s
  | .tableWriteSettings via tag first count entries => Sys2Proof.Machine.execTableWriteSettings via tag first count entries s
  | .assocOpen via tag assoc => Sys2Proof.Machine.execAssocOpen via tag assoc s
  | .assocClose via tag assoc => Sys2Proof.Machine.execAssocClose via tag assoc s
  | .assocResume via tag assoc => Sys2Proof.Machine.execAssocResume via tag assoc s
  | .keyOffer via tag assoc generation wrapped wrapCheck => Sys2Proof.Machine.execKeyOffer via tag assoc generation wrapped wrapCheck s
  | .keySwitch via tag assoc generation => Sys2Proof.Machine.execKeySwitch via tag assoc generation s
  | .keyWithdraw via tag assoc generation => Sys2Proof.Machine.execKeyWithdraw via tag assoc generation s
  | .monitorClear via tag monitor => Sys2Proof.Machine.execMonitorClear via tag monitor s
  | .reportAck via tag numbers => Sys2Proof.Machine.execReportAck via tag numbers s
  | .serviceSet via tag value => Sys2Proof.Machine.execServiceSet via tag value s
  | .restart via tag => Sys2Proof.Machine.execRestart via tag s
  | .restartLimitExpiry => Sys2Proof.Machine.execRestartLimitExpiry s
  | .resetCondition condition present => Sys2Proof.Machine.execResetCondition condition present s
  | .startUp straps pace outcome => Sys2Proof.Machine.execStartUp straps pace outcome s
  | .timeBaseSecond => Sys2Proof.Machine.execTimeBaseSecond s
  | .drainDeadlineExpiry assoc bank => Sys2Proof.Machine.execDrainDeadlineExpiry assoc bank s
  | .renewRequestTimerExpiry assoc => Sys2Proof.Machine.execRenewRequestTimerExpiry assoc s
  | .startupInhibitExpiry monitor => Sys2Proof.Machine.execStartupInhibitExpiry monitor s
  | .monitorSample monitor => Sys2Proof.Machine.execMonitorSample monitor s
  | .ackDeadlineExpiry number => Sys2Proof.Machine.execAckDeadlineExpiry number s
  | .pacingTimerExpiry => Sys2Proof.Machine.execPacingTimerExpiry s
  | .retryTimerExpiry => Sys2Proof.Machine.execRetryTimerExpiry s
  | .lineQuiet => Sys2Proof.Machine.execLineQuiet s
  | .openGap => Sys2Proof.Machine.execOpenGap s
  | .claimByOtherStation => Sys2Proof.Machine.execClaimByOtherStation s
  | .lineWatchGuard octet => Sys2Proof.Machine.execLineWatchGuard octet s
  | .claimStart readsLow => Sys2Proof.Machine.execClaimStart readsLow s
  | .claimLost bit => Sys2Proof.Machine.execClaimLost bit s
  | .claimWon => Sys2Proof.Machine.execClaimWon s
  | .frameSent => Sys2Proof.Machine.execFrameSent s
  | .clash => Sys2Proof.Machine.execClash s
  | .burstRelease => Sys2Proof.Machine.execBurstRelease s
  | .standoffExpiry => Sys2Proof.Machine.execStandoffExpiry s
  | .paceHold point => Sys2Proof.Machine.execPaceHold point s
  | .paceGo => Sys2Proof.Machine.execPaceGo s
  | .trunkClockLoss => Sys2Proof.Machine.execTrunkClockLoss s
  | .trunkClockReturn => Sys2Proof.Machine.execTrunkClockReturn s
  | .huntDelimiterFound => Sys2Proof.Machine.execHuntDelimiterFound s
  | .trunkReceiveOctet octet => Sys2Proof.Machine.execTrunkReceiveOctet octet s
  | .busyPeriodEnd => Sys2Proof.Machine.execBusyPeriodEnd s
  | .lineWatchOctet input => Sys2Proof.Machine.execLineWatchOctet input s
  | .tableWriteBadTable via tag table first count entries => Sys2Proof.Machine.execTableWriteBadTable via tag table first count entries s

end Sys2Proof.Machine
end

