-- ==== Sys2Proof/Machine/Step.lean ====
section
/-! DEFINITION. One step: the command at the front of the queue; when none waits, the expiry of a timer that has come to its
deadline, or one millisecond of the Time Base. -/

namespace Sys2Proof.Machine

/-- The step of a running part with no command waiting: a timer that has come to its deadline expires, whichever of those
that have (R172), and where none has, the millisecond count advances by 1 (R171; log entry 11). -/
def idleStep (s : State) : Host.Outcome State Fault Refusal :=
  match s.dueExpiry with
  | some c => exec c s.spendChoice
  | none => .next s.passMillisecond

/-- One step. With a command waiting, the first is taken from the queue and run. With none waiting, a running part's time
passes; a part held in reset takes no timer event (R173) and stays. -/
def step (s : State) : Host.Outcome State Fault Refusal :=
  match s.pending with
  | c :: rest => exec c { s with pending := rest }
  | [] => if s.power.running then idleStep s else .next s

/-- The state with the command a word spells put at the front of its queue; unchanged where the word spells none. -/
def State.withFetchWord (s : State) (nbits w : Nat) : State :=
  match Sys2Proof.decodeTableWord nbits w with
  | none => s
  | some c => { s with pending := c :: s.pending }

end Sys2Proof.Machine
end

