-- ==== Sys2Proof/Safety.lean ====
section
/-! DEFINITION. What a safe run keeps: the capacities of the queues, the laws of the association records (1, 2, 11, 12),
of the Fault Report Queue (law 8), of the Time Base and of the timers. Each speaks of any state, reached or not. -/

namespace Sys2Proof.Machine

/-! ## Capacities -/

/-- The capacities of the queues and buffers (R32, R35, R38 to R40, R68, R141, R157) and law 7 (R79). -/
structure State.WithinCapacities (s : State) : Prop where
  inbox : s.management.inbox.length ≤ 4
  delivery : s.shop.delivery.length ≤ 16
  outbound : s.engine.outbound.length ≤ 16
  inbound : s.engine.inbound.length ≤ 16
  unwrap : s.engine.unwrap.length ≤ 4
  staging : s.receiver.staging.length ≤ 1538
  places : s.sendQueue.taken ≤ 32
  trafficPlaces : s.sendQueue.takenTraffic ≤ 28
  reports : s.reports.records.length ≤ 24

/-! ## Associations -/

/-- Law 1 (R11): the outbound bank selector names the ACTIVE bank, so that at most one is ACTIVE, and at most one bank is
FRESH. -/
structure Assoc.BanksInOrder (r : Assoc) : Prop where
  selectorA : r.bankA.state = .active → r.selector = .bankA
  selectorB : r.bankB.state = .active → r.selector = .bankB
  oneFresh : ¬(r.bankA.state = .fresh ∧ r.bankB.state = .fresh)

/-- Law 2 (R18): a non-EMPTY bank's wear is no greater than the hard wear limit. -/
def Bank.WithinLimit (k : Bank) (hard : W32) : Prop := k.state ≠ .empty → k.wear.toNat ≤ hard.toNat

/-- Laws 1, 2 and 12 (R6, R11, R18), and what the states of an association say of its banks (the table under
"Association states"): keyed when LIVE or SUSPENDED, both banks EMPTY when VACANT or PENDING. -/
structure Assoc.Sound (r : Assoc) : Prop where
  banks : r.BanksInOrder
  limitA : r.bankA.WithinLimit r.policy.hardLimit
  limitB : r.bankB.WithinLimit r.policy.hardLimit
  keyed : r.state = .live ∨ r.state = .suspended → (r.bank r.selector).state = .active
  unkeyed : r.state = .vacant ∨ r.state = .pending → r.bankA.state = .empty ∧ r.bankB.state = .empty
  vacant : r.state = .vacant → r.inFlight = 0 ∧ r.transaction = none

/-- Every association record is sound. -/
def State.AssocsSound (s : State) : Prop := ∀ a, (s.assoc a).Sound

/-- Law 11 (R9): association 0 of a running part is LIVE, or PENDING with the boot epoch spent. -/
def State.ManagementKeyed (s : State) : Prop :=
  s.power.running = true →
    (s.assoc 0).state = .live ∨ ((s.assoc 0).state = .pending ∧ s.provisioning.spent = true)

/-! ## Fault Report Queue -/

/-- Two records that law 8 and R143 keep apart: they share no number, and not both kind and source while UNSENT. -/
def ReportRecord.Apart (x y : ReportRecord) : Prop :=
  x.number ≠ y.number ∧
    ¬(x.state = .unsent ∧ y.state = .unsent ∧ x.kind = y.kind ∧ x.source = y.source)

/-- Law 8 (R145), and the distinct numbers of R143. -/
structure ReportQueue.Lawful (q : ReportQueue) : Prop where
  capacity : q.records.length ≤ 24
  inFlight : inFlightCount q.records ≤ 4
  apart : q.records.Pairwise ReportRecord.Apart

/-- R143: 0 is never used as a number: it is neither the next number nor a record's. -/
structure ReportQueue.Numbered (q : ReportQueue) : Prop where
  next : q.nextNumber ≠ 0
  records : ∀ x ∈ q.records, x.number ≠ 0

/-! ## Time Base -/

/-- R171: the seconds count is the number of whole seconds in the millisecond count, until it saturates. -/
def TimeBase.Coherent (t : TimeBase) : Prop :=
  1000 * t.seconds.toNat ≤ t.milliseconds ∧
    (t.milliseconds < 1000 * (t.seconds.toNat + 1) ∨ t.seconds = 4294967295)

/-! ## Timers -/

/-- R172: the command is the expiry of a timer that runs, and its deadline lies below the reading of its count: the
millisecond count or the seconds count. The lengths and owners are those of R172's table. The Association Store's own event
of a Time Base second counts as one, with that second as its deadline, where another event of the second came first (R171;
log entry 35). -/
def State.Passed (s : State) (milliseconds seconds : Nat) : Instr → Prop
  | .timeBaseSecond => s.time.storeWaits = true ∧ s.time.seconds.toNat < seconds
  | .drainDeadlineExpiry a b => (s.bank a b).state = .draining ∧ ∃ t, (s.bank a b).drainDeadline = some t ∧ t < seconds
  | .renewRequestTimerExpiry a => ∃ t, (s.assoc a).renewDeadline = some t ∧ t < seconds
  | .startupInhibitExpiry m => (s.monitor m).state = .inhibited ∧ (s.monitor m).config.startupInhibit.toNat < seconds
  | .monitorSample m =>
    (s.monitor m).state ≠ .off ∧ (s.monitor m).state ≠ .inhibited ∧ ∃ t, (s.monitor m).nextSample = some t ∧ t < seconds
  | .restartLimitExpiry => ∃ t, s.management.restartTakenAt = some t ∧ t + 2000 < milliseconds
  | .standoffExpiry => s.access.state = .standoff ∧ ∃ t, s.access.standoffDeadline = some t ∧ t < milliseconds
  | .ackDeadlineExpiry n =>
    ∃ x ∈ s.reports.records, x.number = n ∧ x.state = .inFlight ∧ ∃ t, x.ackDeadline = some t ∧ t < milliseconds
  | .pacingTimerExpiry => ∃ t, s.reports.pacingDeadline = some t ∧ t < milliseconds
  | .retryTimerExpiry => ∃ t, s.reports.retryDeadline = some t ∧ t < milliseconds
  | _ => False

/-- R172: the timer whose expiry the command is has its deadline at or below its count. -/
def State.Due (s : State) (c : Instr) : Prop := s.Passed (s.time.milliseconds + 1) (s.time.seconds.toNat + 1) c

/-- R171, R172: the millisecond count can come to a reading: it has, or the reading does not lie beyond the next Time Base
second and no timer that runs has a deadline before it. -/
def State.Unobstructed (s : State) (t : Nat) : Prop :=
  t ≤ s.time.milliseconds ∨
    ((t ≤ 1000 * (s.time.seconds.toNat + 1) ∨ s.time.seconds = 4294967295) ∧
      ∀ c, ¬s.Passed t (s.time.seconds.toNat + 1) c)

/-- R171, R172: the seconds count can increase: it is not saturated, and no timer that runs has a deadline before the next
Time Base second. -/
def State.MayTurn (s : State) : Prop :=
  s.time.seconds ≠ 4294967295 ∧ ∀ c, ¬s.Passed (1000 * (s.time.seconds.toNat + 1)) (s.time.seconds.toNat + 1) c

/-- R172: the seconds count can come to a reading: it has, or the reading is that of its next increase, which can come. -/
def State.UnobstructedSecond (s : State) (t : Nat) : Prop :=
  t ≤ s.time.seconds.toNat ∨ (t = s.time.seconds.toNat + 1 ∧ s.MayTurn)

/-- R172: every timer expires at the increase that brings its count to its deadline: no count lies beyond the deadline of
a timer that runs, the clock-loss measure among them. -/
structure State.Timely (s : State) : Prop where
  timers : ∀ c, ¬s.Passed s.time.milliseconds s.time.seconds.toNat c
  clock : ∀ t, s.access.clockDeadline = some t → s.time.milliseconds ≤ t

/-- R95, R171, R172: the state when the Time Base's counts have come to two readings with no trunk clock loss detected: an
edge has restarted the clock-loss measure where it would have expired. -/
def State.atReadings (s : State) (milliseconds : Nat) (seconds : W32) : State :=
  { s with
    time := { s.time with milliseconds := milliseconds, seconds := seconds }
    access :=
      { s.access with
        clockDeadline := s.access.clockDeadline.map (fun d => if d < milliseconds then milliseconds + 1 else d) } }

/-- R171: the state at the next Time Base second, which the Association Store has yet to take (log entry 35). -/
def State.atSecond (s : State) : State :=
  let u := s.atReadings (max s.time.milliseconds (1000 * (s.time.seconds.toNat + 1))) (s.time.seconds + 1)
  { u with time := { u.time with storeWaits := true } }

/-- R171: the state when the millisecond count has come to a reading: at the reading of the next Time Base second the seconds
count increases with it. -/
def State.comesTo (s : State) (t : Nat) : State :=
  if s.time.milliseconds < t ∧ 1000 * (s.time.seconds.toNat + 1) ≤ t ∧ s.time.seconds ≠ 4294967295 then s.atSecond
  else s.atReadings (max s.time.milliseconds t) s.time.seconds

/-- R171: the state when the seconds count has come to a reading, which is at most that of its next increase. -/
def State.comesToSecond (s : State) (t : Nat) : State := if t ≤ s.time.seconds.toNat then s else s.atSecond

/-! ## Control messages -/

/-- The command is a control message that a frame on channel 0 carries (R157). -/
def CarriesMessage (c : Instr) : Prop := (messageOf c).isSome = true

/-! ## Events that end at once -/

/-- R44, R158: the engine is BUSY and no message waits, so that an event that joins nothing to the inbox ends with its own
effect. -/
structure State.Busy (s : State) : Prop where
  running : s.power.running = true
  busy : s.engine.current.isSome = true
  inbox : s.management.inbox = []

/-- R44, R158: nothing waits for the engine or the Management Unit, so that a completion leaves the engine IDLE. -/
structure State.NothingWaits (s : State) : Prop where
  running : s.power.running = true
  outbound : s.engine.outbound = []
  inbound : s.engine.inbound = []
  unwrap : s.engine.unwrap = []
  inbox : s.management.inbox = []

/-- R9, R158: a message reaches the part, for association 0 is LIVE, and is taken at once. -/
structure State.Listening (s : State) : Prop where
  busy : s.Busy
  management : (s.assoc 0).state = .live
  mark : s.management.answerOutstanding = false

/-- R158, R159: a message that arrives is taken at once, and no restart is pending. -/
structure State.Attentive (s : State) : Prop where
  listening : s.Listening
  restart : s.management.restartTakenAt = none

/-- R158, R160: the state after an answer given at a taking was offered: with control room it joins the Outbound Work
Queue and sets the answer-outstanding mark; without, RESPONSE_DROP is counted. -/
def State.answeredWith (s : State) (octets : List Byte) (restartMark : Bool) : State :=
  if s.engine.outbound.length < 16 ∧ s.sendQueue.taken < 32 then
    { s with
      engine :=
        { s.engine with
          outbound := s.engine.outbound ++
            [{ assoc := 0, plaintext := octets, restartMark := restartMark, setsMark := true }] }
      management := { s.management with answerOutstanding := true } }
  else s.countStation .responseDrop

/-- R113, R114: the state after the record `r` of association `a` was stored and its renewal-due condition evaluated. One that
is not due has no timer. One that is due keeps a timer that runs, and else starts one, its RENEW_REQUEST joining the Outbound
Work Queue where there is control room. -/
def State.renewalEvaluated (s : State) (a : AssocId) (r : Assoc) : State :=
  let stored (deadline : Option Nat) : State := { s with assocs := s.assocs.set a { r with renewDeadline := deadline } }
  if r.isDue = false then stored none
  else if r.renewDeadline.isSome then stored r.renewDeadline
  else
    let started := stored (some (s.time.seconds.toNat + r.policy.renewInterval.toNat))
    match r.activeBank with
    | none => started
    | some b =>
      if s.engine.outbound.length < 16 ∧ s.sendQueue.taken < 32 then
        { started with
          engine :=
            { s.engine with
              outbound := s.engine.outbound ++
                [{ assoc := 0, plaintext := renewRequestOctets a r (r.bank b), restartMark := false, setsMark := false }] } }
      else started

/-- R99, R103, R104: the state after the end of the transaction `tr` of association `a`, its answer carrying `code`. The
answer joins the Outbound Work Queue where there is control room, and is counted in RESPONSE_DROP where there is none (R100);
the transaction is removed and the in-flight count falls; a CLOSING association whose count comes to 0 becomes VACANT at that
event (R6). The renewal-due condition is evaluated after that, so that a RENEW_REQUEST follows the answer (R113, R114). -/
def State.transactionEnded (s : State) (a : AssocId) (tr : Transaction) (code : Byte) : State :=
  let r := s.assoc a
  let answered : State :=
    if s.engine.outbound.length < 16 ∧ s.sendQueue.taken < 32 then
      { s with
        engine :=
          { s.engine with
            outbound := s.engine.outbound ++
              [{ assoc := 0, restartMark := false, setsMark := false
                 plaintext := [0xA0, tr.tag, 0, 4, code, BitVec.ofNat 8 tr.target.val, 0] ++ word 2 tr.generation }] } }
    else s.countStation .responseDrop
  let left : Assoc :=
    if r.state = .closing ∧ r.inFlight ≤ 1 then
      { r with
        state := .vacant, selector := .bankA, bankA := emptyBank, bankB := emptyBank, inFlight := 0
        transaction := none, monitorRenewal := false, counters := Vector.replicate 8 0, quiet := 0
        renewDeadline := none }
    else { r with transaction := none, inFlight := r.inFlight - 1 }
  answered.renewalEvaluated a left

/-- R95, R172: the state with the Trunk Access Controller's record `x`, after an event timed by the trunk clock: its edge
has restarted the clock-loss measure. -/
def State.lineTo (s : State) (x : Access) : State :=
  { s with access := { x with clockDeadline := some (s.time.milliseconds + 1) } }

/-- R86, R92: the state for which a station leaves LISTEN and DEFERRED: RESERVED when some place is filled. -/
def SendQueue.turn (q : SendQueue) : AccessState :=
  if q.control = [] ∧ q.urgent = [] ∧ q.bulk = [] then .idle else .reserved

/-- R66: the register of the trunk check after the octets of `l`, each taken most significant bit first, from all ones; the
generator is x^16 + x^12 + x^5 + 1. -/
def trunkRegister (l : List Byte) : W16 :=
  l.foldl (fun r o =>
    (List.range 8).foldl (fun r i => (r <<< 1) ^^^ (if r.getLsbD 15 = o.getLsbD (7 - i) then 0 else 0x1021)) r) 0xFFFF

/-- R66, R69: the last two of the stored octets are the complemented register over all the others, the octet with the
coefficient of x^15 first. -/
def CheckHolds (c : List Byte) : Prop :=
  octetAt c (c.length - 2) ++ octetAt c (c.length - 1) = ~~~ trunkRegister (c.take (c.length - 2))

/-- R70: the kind is 0, the sequence is not 0, L is no greater than 1518, and L + 20 octets are stored. -/
structure FormHolds (c : List Byte) : Prop where
  kind : (octetAt c 1).toNat / 32 = 0
  sequence : ¬(octetAt c 4 = 0 ∧ octetAt c 5 = 0 ∧ octetAt c 6 = 0 ∧ octetAt c 7 = 0)
  length : (octetAt c 8).toNat * 256 + (octetAt c 9).toNat ≤ 1518
  stored : c.length = (octetAt c 8).toNat * 256 + (octetAt c 9).toNat + 20

/-- R74: a bank that is ACTIVE, FRESH or DRAINING and holds the generation. -/
def Bank.Qualifies (k : Bank) (g : W16) : Prop :=
  (k.state = .active ∨ k.state = .fresh ∨ k.state = .draining) ∧ k.generation = g

/-- R67: the receiver takes octets one after another; what each came to. -/
def Receiver.feed (r : Receiver) : List Byte → Receiver × List FramingEffect
  | [] => (r, [])
  | o :: l => (((r.takeOctet o).1.feed l).1, (r.takeOctet o).2 :: ((r.takeOctet o).1.feed l).2)

/-- R62, R97: the trunk lines are timed: the part runs and its trunk clock is not lost. -/
structure State.Clocked (s : State) : Prop where
  running : s.power.running = true
  clock : s.access.clockDeadline.isSome = true

end Sys2Proof.Machine
end

