-- ==== Sys2Proof/WellFormed.lean ====
section
/-! DEFINITION. Which commands are well formed: a control message fits a trunk frame and has a carrier with a sequence, and
the two commands for messages that are answered without work spell such messages. `exec` gives every command its meaning,
well formed or not. -/

namespace Sys2Proof

open Machine

/-- R70: no trunk frame carries sequence 0. -/
def Carrier.wellFormed (c : Carrier) : Bool := c.sequence != 0

/-- R157: a message is the plaintext of a trunk frame, at most 1518 octets. -/
def messageFits (m : ControlMessage) : Bool := m.via.wellFormed && decide (m.octets.length ≤ 1518)

/-- R159 checks 1, 2 and 4, which do not depend on the part's state. -/
def messageFormPasses (octets : List Byte) : Bool :=
  decide (4 ≤ octets.length) && decide (octets.length ≤ 512) &&
    (word16At octets 2).toNat == octets.length - 4 &&
    match MessageKind.ofCode (octetAt octets 0) with
    | none => false
    | some k => k.allowsLength (octets.length - 4)

/-- R163: the identifiers of the four tables that can be written. -/
def isWritableTable (table : Byte) : Bool := table == 1 || table == 2 || table == 4 || table == 6

/-- A command is well formed. -/
def Instr.wellFormed : Instr → Bool
  | .shopFrameArrival _ _ => true
  | .shopTransmitStart => true
  | .shopTransmissionEnd _ => true
  | .trunkFramingDrop _ => true
  | .trunkFrameArrival => true
  | .outboundCompletion => true
  | .inboundCompletion => true
  | .unwrapCompletion => true
  | .controlMessageInvalid via octets => messageFits { octets := octets, via := via } && !messageFormPasses octets
  | .echo via tag body => messageFits (echoMessage via tag body)
  | .tableRead via tag table first count => messageFits (tableReadMessage via tag table first count)
  | .tableWriteFlow via tag first count entries => messageFits (tableWriteMessage via tag 1 first count entries)
  | .tableWriteAssocConfig via tag first count entries => messageFits (tableWriteMessage via tag 2 first count entries)
  | .tableWriteMonitor via tag first count entries => messageFits (tableWriteMessage via tag 4 first count entries)
  | .tableWriteSettings via tag first count entries => messageFits (tableWriteMessage via tag 6 first count entries)
  | .assocOpen via _ _ => via.wellFormed
  | .assocClose via _ _ => via.wellFormed
  | .assocResume via _ _ => via.wellFormed
  | .keyOffer via _ _ _ _ _ => via.wellFormed
  | .keySwitch via _ _ _ => via.wellFormed
  | .keyWithdraw via _ _ _ => via.wellFormed
  | .monitorClear via _ _ => via.wellFormed
  | .reportAck via tag numbers => messageFits (reportAckMessage via tag numbers)
  | .serviceSet via _ _ => via.wellFormed
  | .restart via _ => via.wellFormed
  | .restartLimitExpiry => true
  | .resetCondition _ _ => true
  | .startUp _ _ _ => true
  | .timeBaseSecond => true
  | .drainDeadlineExpiry _ _ => true
  | .renewRequestTimerExpiry _ => true
  | .startupInhibitExpiry _ => true
  | .monitorSample _ => true
  | .ackDeadlineExpiry number => number != 0
  | .pacingTimerExpiry => true
  | .retryTimerExpiry => true
  | .lineQuiet => true
  | .openGap => true
  | .claimByOtherStation => true
  | .lineWatchGuard octet => octet != 0xC9
  | .claimStart _ => true
  | .claimLost _ => true
  | .claimWon => true
  | .frameSent => true
  | .clash => true
  | .burstRelease => true
  | .standoffExpiry => true
  | .paceHold _ => true
  | .paceGo => true
  | .trunkClockLoss => true
  | .trunkClockReturn => true
  | .huntDelimiterFound => true
  | .trunkReceiveOctet _ => true
  | .busyPeriodEnd => true
  | .lineWatchOctet _ => true
  | .tableWriteBadTable via tag table first count entries =>
    messageFits (tableWriteMessage via tag table first count entries) && !isWritableTable table

end Sys2Proof
end

