-- ==== Sys2Proof/Certificates/Slice0/Obligations.lean ====
section
/-! DEFINITION. The statements for the provers. Each docstring says what of the spec it formalises; where a clause rests on
a choice of the model it names the log entry. -/

open Sys2Proof Sys2Proof.Machine

/-! ## The machine as a whole -/

/-- A step with commands waiting runs the first of them on the state with the rest of the queue. -/
def Obligations.StepRunsTheFrontCommand : Prop :=
  ∀ (s : State) (c : Instr) (rest : List Instr), s.pending = c :: rest → step s = exec c { s with pending := rest }

/-- With no command waiting a part held in reset stays as it is (R173). In a running part a timer whose deadline its count has
come to expires (R172), and with none due the millisecond count advances by 1, and the seconds count with it where it reaches
a multiple of 1000 (R171). That a step with no command is one millisecond, or the expiry of one of the timers that are due,
whichever, is the model's choice: log entry 11; that the Association Store then has the second still to take is log entry
35; that the millisecond implies an edge of the trunk clock where its loss would have been detected is log entry 6; that a
saturated seconds count makes no further Time Base second is log entry 10. -/
def Obligations.EmptyQueueStepPassesAMillisecond : Prop :=
  ∀ s : State, s.pending = [] →
    (s.power.running = false → step s = .next s) ∧
    (s.power.running = true → (∃ c, s.Due c) → ∃ c, s.Due c ∧ step s = exec c { s with free := s.free + 1 }) ∧
    (s.power.running = true → (∀ c, ¬s.Due c) →
      (s.time.milliseconds + 1 < 1000 * (s.time.seconds.toNat + 1) ∨ s.time.seconds = 4294967295 →
        step s = .next (s.atReadings (s.time.milliseconds + 1) s.time.seconds)) ∧
      (1000 * (s.time.seconds.toNat + 1) ≤ s.time.milliseconds + 1 → s.time.seconds ≠ 4294967295 →
        step s = .next s.atSecond))

/-- While held in reset the part "takes no frame, message or timer event" (R173): every command but RESET_CONDITION and
START_UP leaves the state as it is (log entry 9). -/
def Obligations.PartHeldInResetTakesNothing : Prop :=
  ∀ (c : Instr) (s : State), s.power.running = false → (∀ x b, c ≠ .resetCondition x b) →
    (∀ a p o, c ≠ .startUp a p o) → exec c s = .next s

/-- The Provisioning Store is changed by start-up alone, and there only by the boot epoch's advance: the epoch never falls
(R175, R176). No command changes the queue of those that wait. -/
def Obligations.ProvisioningStoreKeptButForTheEpoch : Prop :=
  ∀ (c : Instr) (s t : State), exec c s = .next t →
    t.pending = s.pending ∧ t.provisioning.serial = s.provisioning.serial ∧
      t.provisioning.provisioningKey = s.provisioning.provisioningKey ∧
      t.provisioning.revision = s.provisioning.revision ∧
      s.provisioning.epoch.toNat ≤ t.provisioning.epoch.toNat ∧
      ((∀ a p o, c ≠ .startUp a p o) → t.provisioning.epoch = s.provisioning.epoch)

/-- Every step keeps the capacities of the queues and buffers and law 7 (R32, R35, R38, R39, R40, R68, R79, R141, R157). -/
def Obligations.EveryStepKeepsTheCapacities : Prop :=
  ∀ s t : State, s.WithinCapacities → step s = .next t → t.WithinCapacities

/-- Every step keeps laws 1, 2 and 12 and the keying of the association states, in every association (R6, R11, R18); and
law 11: association 0 of a running part is LIVE, or PENDING with the boot epoch spent (R9). -/
def Obligations.EveryStepKeepsTheAssociationLaws : Prop :=
  (∀ s t : State, s.AssocsSound → step s = .next t → t.AssocsSound) ∧
  (∀ s t : State, s.ManagementKeyed → step s = .next t → t.ManagementKeyed)

/-- Every step keeps law 8 and the distinct numbers of the report records (R143, R145), and no step comes to use 0 as a
number (R143). -/
def Obligations.EveryStepKeepsTheReportQueueLawful : Prop :=
  (∀ s t : State, s.reports.Lawful → step s = .next t → t.reports.Lawful) ∧
  (∀ s t : State, s.reports.Numbered → step s = .next t → t.reports.Numbered)

/-- Every step keeps the seconds count the whole seconds of the millisecond count, until it saturates (R171). And every timer
expires at the increase that brings its count to its deadline (R172): no step takes a count beyond the deadline of a timer
that runs. That the millisecond count comes to a timer's deadline with the timer's expiry is the model's choice: log entry
6. -/
def Obligations.EveryStepKeepsTheTimeBaseCoherent : Prop :=
  (∀ s t : State, s.time.Coherent → step s = .next t → t.time.Coherent) ∧
  (∀ s t : State, s.Timely → step s = .next t → t.Timely)

/-- The state after reset is within the capacities, its associations are sound, law 11 holds of them, its report queue is
lawful and numbered, its Time Base coherent and its timers timely. -/
def Obligations.ResetKeepsTheInvariants : Prop :=
  State.reset.WithinCapacities ∧ State.reset.AssocsSound ∧ State.reset.ManagementKeyed ∧ State.reset.reports.Lawful ∧
    State.reset.reports.Numbered ∧ State.reset.time.Coherent ∧ State.reset.Timely

/-- Law 9 (R86): whatever command moves a station into CLAIMING is the start of its own claim, from RESERVED with PACE at
GO, with the line quiet; the claim is a start bit 0 and the station's own number, most significant bit first (R87). -/
def Obligations.ClaimsStartOnlyFromReservedWithGo : Prop :=
  ∀ (c : Instr) (s t : State), exec c s = .next t → t.access.state = .claiming → s.access.state ≠ .claiming →
    (∃ b, c = .claimStart b) ∧ s.access.state = .reserved ∧ s.access.pace = .go ∧ s.access.watch = .rest ∧
      16 ≤ s.access.idleCount ∧
      t.access.transmission =
        .claim [false, s.identity.station.getLsbD 2, s.identity.station.getLsbD 1, s.identity.station.getLsbD 0]

/-! ## Computations and conditions -/

/-- R45: the cost of a frame item of L octets is 2n + 2 with n = ceil(L/16), the number of keystream blocks and of
ciphertext blocks; an unwrap costs 6; the table of examples. -/
def Obligations.ItemCost : Prop :=
  (∀ l : Nat, frameCost l = 2 * blockCount l + 2 ∧ l ≤ 16 * blockCount l ∧ 16 * blockCount l < l + 16) ∧
    (∀ text : List Byte, (textBlocks text).length = blockCount text.length) ∧
    (∀ (k : Key) (c : AssocId) (d : Byte) (g : W16) (q : W32) (n : Nat), (keystream k c d g q n).length = 16 * n) ∧
    unwrapCost = 6 ∧ frameCost 4 = 4 ∧ frameCost 60 = 10 ∧ frameCost 512 = 66 ∧ frameCost 1000 = 128 ∧
    frameCost 1514 = 192 ∧ frameCost 1518 = 192 ∧ frameCost 0 = 2

/-- R54, R55 and law 4: an accepted sequence is refused from then on, nothing refused before is accepted after, and H never
falls. A sequence above H is always accepted, one of the 64 up to H exactly when it is not in the seen-set, one below them
never. Marking a sequence leaves the decision of every other that is still in the window as it was. -/
def Obligations.ReceiveWindowNeverAcceptsTwice : Prop :=
  ∀ (k : Bank) (q : W32), k.accepts q = true →
    (k.mark q).accepts q = false ∧ k.highest.toNat ≤ (k.mark q).highest.toNat ∧
      (k.mark q).highest.toNat = max k.highest.toNat q.toNat ∧
      (∀ r : W32, (k.mark q).accepts r = true → k.accepts r = true) ∧
      (∀ r : W32, k.highest.toNat < r.toNat → k.accepts r = true) ∧
      (∀ r : W32, r.toNat + 64 ≤ k.highest.toNat → k.accepts r = false) ∧
      (∀ r : W32, r.toNat ≤ k.highest.toNat → k.highest.toNat < r.toNat + 64 →
        (k.accepts r = true ↔ k.seen.getLsbD (k.highest.toNat - r.toNat) = false)) ∧
      (∀ r : W32, r ≠ q → (k.mark q).highest.toNat < r.toNat + 64 → (k.mark q).accepts r = k.accepts r)

/-- R26: the three values a frame is matched on: its destination address, its lane and its ethertype, with and without a lane
tag. R28: which frames a Flow Table entry matches. The codes of a lane match are those of R179. -/
def Obligations.FlowEntryMatchesItsPatterns : Prop :=
  (∀ f : List Byte,
    let number (i : Nat) : Nat := (octetAt f i).toNat * 256 + (octetAt f (i + 1)).toNat
    (parseFrame f).destination.toNat = (number 0 * 65536 + number 2) * 65536 + number 4 ∧
    (octetAt f 12 = 0x81 ∧ octetAt f 13 = 0 →
      (parseFrame f).ethertype.toNat = number 16 ∧
        ∃ v : BitVec 12, (parseFrame f).lane = some v ∧ v.toNat = number 14 % 4096) ∧
    (¬(octetAt f 12 = 0x81 ∧ octetAt f 13 = 0) →
      (parseFrame f).ethertype.toNat = number 12 ∧ (parseFrame f).lane = none)) ∧
  (∀ (e : FlowEntry) (p : Parsed),
    (e.valid = false → e.accepts p = false) ∧
    (e.valid = true → laneMatchCoded e.laneMatch = true →
      (e.accepts p = true ↔
        (e.laneMatch = 0xF000 ∨ (e.laneMatch = 0xF001 ∧ p.lane = none) ∨
            ∃ v : BitVec 12, p.lane = some v ∧ v.toNat = e.laneMatch.toNat) ∧
          (e.ethertypeGiven = false ∨ p.ethertype = e.ethertype) ∧
          (e.destinationGiven = false ∨ p.destination = e.destination))) ∧
    (e.valid = true → e.laneMatch = 0xF000 → e.ethertypeGiven = false → e.destinationGiven = false →
      e.accepts p = true))

/-- R112: when an association is renewal-due, and for which reasons, of an association that keeps law 1. R113, R114: what an
evaluation of the condition does: an association that is due and whose timer does not run sends a RENEW_REQUEST while there
is control room and starts its timer; one that is not due has no timer. -/
def Obligations.RenewalDueCondition : Prop :=
  (∀ (s : State) (a : AssocId),
    let r := s.assoc a
    let timer (d : Option Nat) : State := { s with assocs := s.assocs.set a { r with renewDeadline := d } }
    let started := timer (some (s.time.seconds.toNat + r.policy.renewInterval.toNat))
    (r.isDue = false → s.evaluateDue a = timer none) ∧
    (r.isDue = true → r.renewDeadline.isSome = true → s.evaluateDue a = s) ∧
    (r.isDue = true → r.renewDeadline = none →
      (16 ≤ s.engine.outbound.length ∨ 32 ≤ s.sendQueue.taken → s.evaluateDue a = started) ∧
      (∀ b, r.activeBank = some b → s.engine.outbound.length < 16 → s.sendQueue.taken < 32 →
        s.evaluateDue a =
          { started with
            engine :=
              { s.engine with
                outbound := s.engine.outbound ++
                  [{ assoc := 0, restartMark := false, setsMark := false
                     plaintext := renewRequestOctets a r (r.bank b) }] } }))) ∧
  ∀ r : Assoc, r.BanksInOrder →
    (r.isDue = true ↔
      ∃ b, (r.bank b).state = .active ∧ (∀ b', (r.bank b').state ≠ .fresh) ∧ r.transaction = none ∧
        r.state ≠ .closing ∧
        (r.policy.softLimit.toNat ≤ (r.bank b).wear.toNat ∨
          (r.policy.maxKeyAge ≠ 0 ∧ r.policy.maxKeyAge.toNat ≤ (r.bank b).keyAge.toNat) ∨
          2147483648 ≤ (r.bank b).nextSequence.toNat ∨ r.monitorRenewal = true)) ∧
    (r.isDue = true → ∀ b, (r.bank b).state = .active →
      (DueReason.wear ∈ r.dueReasons ↔ r.policy.softLimit.toNat ≤ (r.bank b).wear.toNat) ∧
      (DueReason.age ∈ r.dueReasons ↔
        r.policy.maxKeyAge ≠ 0 ∧ r.policy.maxKeyAge.toNat ≤ (r.bank b).keyAge.toNat) ∧
      (DueReason.sequence ∈ r.dueReasons ↔ 2147483648 ≤ (r.bank b).nextSequence.toNat) ∧
      (DueReason.monitor ∈ r.dueReasons ↔ r.monitorRenewal = true))

/-- R118: the maximum key age of a written ASSOC_CONFIG entry is stored as written; after the write AGE holds of a bank
exactly when the age written is not 0 and at or below the bank's key age; no write changes a bank. -/
def Obligations.MaximumKeyAgeTakenAsWritten : Prop :=
  ∀ (s : State) (n : Nat) (a : AssocId) (e : List Byte), (policyOfOctets a e).isSome = true →
    let t := (writePolicyEntry (s, n) a.val e).1
    (t.assoc a).policy.maxKeyAge = word32At e 12 ∧
      (∀ b, (t.assoc a).bank b = (s.assoc a).bank b) ∧
      ∀ k : Bank, (t.assoc a).reasonHolds k .age = true ↔
        word32At e 12 ≠ 0 ∧ (word32At e 12).toNat ≤ k.keyAge.toNat

/-- R117 with R18, and the four steps of R164: the policy as stored, field by field, and law 2 kept by the write. R129, R130:
the monitor record as stored: its period, persistence and levels as the four clamps give them, a value in range as written,
all else as written; its two conditions never hold together, and clamping again changes nothing. -/
def Obligations.WrittenLimitsAreClampedIntoRange : Prop :=
  ((∀ written highest : W32, (clampHard written highest).toNat = max (max written.toNat 1) highest.toNat) ∧
      (∀ written hard : W32, 1 ≤ hard.toNat → (clampSoft written hard).toNat = min (max written.toNat 1) hard.toNat) ∧
      (∀ r : Assoc, r.highestWear.toNat =
        max (if r.bankA.state = .empty then 0 else r.bankA.wear.toNat)
          (if r.bankB.state = .empty then 0 else r.bankB.wear.toNat)) ∧
      (∀ (a : AssocId) (r : Assoc) (p : Policy),
        let hard := clampHard (if a = 0 then 4294967295 else p.hardLimit) r.highestWear
        clampPolicy a r p =
          { direction := if a = 0 then .both else p.direction
            trafficClass := if a = 0 then .control else p.trafficClass
            hardLimit := hard
            softLimit := clampSoft p.softLimit hard
            maxKeyAge := p.maxKeyAge
            drainPeriod := if p.drainPeriod = 0 then 1 else p.drainPeriod
            renewInterval := if p.renewInterval.toNat < 10 then 10 else p.renewInterval }) ∧
      (∀ (a : AssocId) (r : Assoc) (p : Policy),
        r.bankA.WithinLimit (clampPolicy a r p).hardLimit ∧ r.bankB.WithinLimit (clampPolicy a r p).hardLimit ∧
          1 ≤ (clampPolicy a r p).softLimit.toNat ∧
          (clampPolicy a r p).softLimit.toNat ≤ (clampPolicy a r p).hardLimit.toNat ∧
          1 ≤ (clampPolicy a r p).drainPeriod.toNat ∧ 10 ≤ (clampPolicy a r p).renewInterval.toNat ∧
          (a = 0 → (clampPolicy a r p).hardLimit = 4294967295 ∧ (clampPolicy a r p).direction = .both ∧
            (clampPolicy a r p).trafficClass = .control))) ∧
  (∀ c : MonitorConfig,
      (clampMonitor c).period = (if c.period = 0 then 1 else c.period) ∧
        (clampMonitor c).persistence =
          (if c.persistence = 0 then 1 else if 15 < c.persistence.toNat then 15 else c.persistence) ∧
        (c.sense = .rise →
          (clampMonitor c).setLevel = (if c.setLevel = 0 then 1 else c.setLevel) ∧
            (clampMonitor c).clearLevel =
              if c.clearLevel.toNat < (clampMonitor c).setLevel.toNat then c.clearLevel
              else (clampMonitor c).setLevel - 1) ∧
        (c.sense = .fall →
          (clampMonitor c).setLevel = (if c.setLevel = 4294967295 then 4294967294 else c.setLevel) ∧
            (clampMonitor c).clearLevel =
              if (clampMonitor c).setLevel.toNat < c.clearLevel.toNat then c.clearLevel
              else (clampMonitor c).setLevel + 1)) ∧
  (∀ c : MonitorConfig,
      1 ≤ (clampMonitor c).period.toNat ∧ 1 ≤ (clampMonitor c).persistence.toNat ∧
        (clampMonitor c).persistence.toNat ≤ 15 ∧
        (∀ m : W32, ¬((clampMonitor c).setHolds m = true ∧ (clampMonitor c).clearHolds m = true)) ∧
        clampMonitor (clampMonitor c) = clampMonitor c ∧
        clampMonitor c =
          { c with
            period := (clampMonitor c).period
            persistence := (clampMonitor c).persistence
            setLevel := (clampMonitor c).setLevel
            clearLevel := (clampMonitor c).clearLevel })

/-- R128: the measured value of a RATE monitor, computed wide and saturated, with the rule's examples. -/
def Obligations.RateIsComputedWideAndSaturated : Prop :=
  (∀ (c : MonitorConfig) (v d : W32), c.mode = .rate →
      (c.measure v d).toNat = min (d.toNat * 60 / c.period.toNat) 4294967295) ∧
    (∀ d : W32, ratePerMinute d 60 = d) ∧
    (List.range 6).map (fun d => (ratePerMinute (BitVec.ofNat 32 d) 45).toNat) = [0, 1, 2, 4, 5, 6] ∧
    (∀ d : W32, ratePerMinute d 45 ≠ 3) ∧
    ratePerMinute 100000000 1 = 4294967295

/-- R143: a new record takes the next number, or, where records in the queue hold that number and those after it, the first
after them that none holds, 65535 being followed by 1 and 0 being used by none where the next number is not 0; and the next
number follows the number taken. R146: what else the record holds. Nothing else of the queue changes. -/
def Obligations.NewReportNumbersAreFree : Prop :=
  ∀ (q : ReportQueue) (p : Report) (now : W32), q.records.length ≤ 24 →
    let following (n : W16) : W16 := if n = 65535 then 1 else n + 1
    let nth (k : Nat) : W16 := (List.range k).foldl (fun n _ => following n) q.nextNumber
    ∃ r : ReportRecord,
      q.create p now = { q with records := q.records ++ [r], nextNumber := following r.number } ∧
      (∃ k ≤ q.records.length, r.number = nth k ∧ ∀ j < k, ∃ x ∈ q.records, x.number = nth j) ∧
      (∀ x ∈ q.records, x.number ≠ r.number) ∧ (q.nextNumber ≠ 0 → r.number ≠ 0) ∧ r.kind = p.kind ∧ r.severity = p.severity ∧ r.source = p.source ∧ r.value = p.value ∧ r.firstTime = now ∧
      r.lastTime = now ∧ r.occurrences = 1 ∧ r.state = .unsent ∧ r.ackDeadline = none ∧ r.resendCount = 0

/-! ## The lines -/

/-- R64, R65, R67: a receiver in OPEN that takes the stuffed contents of a frame, octet by octet, and the closing
delimiter, stages nothing else and comes to the arrival of exactly those contents. -/
def Obligations.StuffedContentsArriveAsSent : Prop :=
  ∀ (r : Receiver) (c : List Byte), r.state = .opened → 20 ≤ c.length → c.length ≤ 1538 → octetAt c 0 ≠ 0xFF →
    r.feed (stuff c ++ [delimiter]) =
      ({ state := .opened, staging := [] }, List.replicate (stuff c).length .nothing ++ [.arrival c])

/-- R46: enciphering and deciphering combine octet j of the text with octet j modulo 16 of E(K, counter block), the block
holding the channel, the direction octet, the generation, the sequence, six zero octets and the index j/16 + 1. R47: the
chain begins with E(K, header block), the 10 header octets and six zeros, takes in each block of 16 octets of the
ciphertext, the last padded with zeros, and ends with the length block, L and 14 zeros; the tag is the first 8 octets of
the final block. R50, R64, R66, R70: a frame the part sends carries its plaintext enciphered under direction 0x0F and the
tag of its header and that ciphertext; its contents pass the check and the form test, and its header reads as it was
written: destination 12, the channel, the generation, the sequence and L; deciphering the ciphertext with the same key,
channel, direction, generation and sequence gives the plaintext back. -/
def Obligations.SealedFramesReadAsWritten : Prop :=
  ∀ (k : Key) (a : AssocId) (g : W16) (q : W32),
    let E : Block → Block := Config.permutation k
    let octet (b : Block) (j : Nat) : Byte := b.extractLsb' (8 * (15 - j)) 8
    let block (o : Nat → Byte) : Block :=
      o 0 ++ o 1 ++ o 2 ++ o 3 ++ o 4 ++ o 5 ++ o 6 ++ o 7 ++ o 8 ++ o 9 ++ o 10 ++ o 11 ++ o 12 ++ o 13 ++ o 14 ++ o 15
    let ciphered (direction : Byte) (text : List Byte) : List Byte :=
      (List.range text.length).map (fun j =>
        octetAt text j ^^^
          octet
            (E (BitVec.ofNat 8 a.val ++ direction ++ g ++ q ++ (0 : BitVec 48) ++ BitVec.ofNat 16 (j / 16 + 1)))
            (j % 16))
    let tagged (header text : List Byte) : List Byte :=
      let chained : Block :=
        (List.range ((text.length + 15) / 16)).foldl
          (fun c i => E (c ^^^ block (fun j => octetAt text (16 * i + j)))) (E (block (octetAt header)))
      (List.range 8).map (octet (E (chained ^^^ (BitVec.ofNat 16 text.length ++ (0 : BitVec 112)))))
    (∀ (direction : Byte) (text : List Byte), applyKeystream k a direction g q text = ciphered direction text) ∧
      (∀ header text : List Byte, header.length = 10 → frameTag k header text = tagged header text) ∧
      (∀ (station : BitVec 3) (m : Bool) (p : List Byte), p.length ≤ 1518 → q ≠ 0 →
        let c := (sealFrame k station a g q m p).contents
        c.length = p.length + 20 ∧ trunkCheckPasses c = true ∧ formPasses c = true ∧ destinationOf c = 12 ∧
          (octetAt c 0).toNat % 16 = station.toNat ∧ channelOf c = a ∧ generationOf c = g ∧ sequenceOf c = q ∧
          lengthOf c = p.length ∧ (c.drop 10).take p.length = ciphered 0x0F p ∧
          (c.drop (10 + p.length)).take 8 = tagged (c.take 10) (ciphered 0x0F p) ∧
          applyKeystream k a 0x0F g q ((c.drop 10).take p.length) = p)

/-- R23, R24, R36: a frame the part sends to the shop is 64 to 1522 octets and passes the part's own length and check
tests; it begins with the plaintext, padded with zero octets to 60. The placement of the check octets is the reading of
log entry 5. -/
def Obligations.ShopFramesPassTheirOwnCheck : Prop :=
  ∀ p : List Byte, p.length ≤ 1518 →
    (shopFrameOctets p).length = max p.length 60 + 4 ∧ shopFramePasses (shopFrameOctets p) false = true ∧
      (shopFrameOctets p).take p.length = p ∧
      ∀ i, p.length ≤ i → i < 60 → (shopFrameOctets p)[i]? = some 0

/-! ## The Trunk Receiver -/

/-- R67: what HUNT_DELIMITER_FOUND and TRUNK_RECEIVE_OCTET do where no frame ends or is dropped, for each framing state and
each octet of the table. R68: the three ways a frame is dropped at framing: MALFORMED is counted once, and the receiver
goes to DISCARD, or to OPEN for a frame that is too short. -/
def Obligations.ReceiverTakesAndDropsOctets : Prop :=
  (∀ s : State, s.Clocked →
      let leaves (r : Receiver) : State := { s.lineTo s.access with receiver := r }
      let l := s.receiver.staging
      (s.receiver.state = .hunt → exec .huntDelimiterFound s = .next (leaves { state := .opened, staging := [] })) ∧
      (∀ o : Byte, s.receiver.state = .opened →
        exec (.trunkReceiveOctet o) s = .next (leaves
          (if o = 0xC9 then s.receiver
           else if o = 0xCA then { state := .escaped, staging := [] }
           else if o = 0xFF then { state := .hunt, staging := [] }
           else { state := .frame, staging := [o] }))) ∧
      (s.receiver.state = .frame →
        exec (.trunkReceiveOctet 0xCA) s = .next (leaves { state := .escaped, staging := l }) ∧
        ∀ o : Byte, o ≠ 0xC9 → o ≠ 0xCA → l.length < 1538 →
          exec (.trunkReceiveOctet o) s = .next (leaves { state := .frame, staging := l ++ [o] })) ∧
      (s.receiver.state = .escaped →
        exec (.trunkReceiveOctet 0xC9) s = .next (leaves { state := .opened, staging := [] }) ∧
        (l.length < 1538 →
          exec (.trunkReceiveOctet 0xD9) s = .next (leaves { state := .frame, staging := l ++ [0xC9] }) ∧
          exec (.trunkReceiveOctet 0xDA) s = .next (leaves { state := .frame, staging := l ++ [0xCA] }))) ∧
      (s.receiver.state = .discard →
        exec (.trunkReceiveOctet 0xC9) s = .next (leaves { state := .opened, staging := [] }) ∧
        ∀ o : Byte, o ≠ 0xC9 → exec (.trunkReceiveOctet o) s = .next (leaves s.receiver))) ∧
  (∀ s : State, s.Clocked →
      let leaves (w : FramingState) : State :=
        { (s.countStation .malformed).lineTo s.access with receiver := { state := w, staging := [] } }
      (∀ o : Byte, s.receiver.state = .frame → s.receiver.staging.length = 1538 → o ≠ 0xC9 → o ≠ 0xCA →
        exec (.trunkFramingDrop o) s = .next (leaves .discard)) ∧
      (∀ o : Byte, s.receiver.state = .escaped → s.receiver.staging.length = 1538 → o = 0xD9 ∨ o = 0xDA →
        exec (.trunkFramingDrop o) s = .next (leaves .discard)) ∧
      (∀ o : Byte, s.receiver.state = .escaped → o ≠ 0xC9 → o ≠ 0xD9 → o ≠ 0xDA →
        exec (.trunkFramingDrop o) s = .next (leaves .discard)) ∧
      (s.receiver.state = .frame → s.receiver.staging.length < 20 →
        exec (.trunkFramingDrop 0xC9) s = .next (leaves .opened)))

/-- R66, R70, R75: the check, the form, the fields and the replay decision in octets and numbers: the check over all stored
octets but the last two, as CheckHolds has it, and the form, as FormHolds has it. R69 to R76: the nine tests of an arrival in
their order. The first that fails decides: what is counted, and nothing else changes but that the receiver is in OPEN with
its staging buffer empty. Law 5 leaves at most one bank that qualifies (R74); in a state that it excludes, where both do, the
last two tests are stated for bank A. -/
def Obligations.ArrivalFailsAtTheFirstTest : Prop :=
  (∀ c : List Byte, 20 ≤ c.length →
    (trunkCheckPasses c = true ↔ CheckHolds c) ∧ (formPasses c = true ↔ FormHolds c) ∧
      destinationOf c = (octetAt c 0).toNat / 16 ∧ (channelOf c).val = (octetAt c 1).toNat % 32 ∧
      generationOf c = octetAt c 2 ++ octetAt c 3 ∧
      sequenceOf c = octetAt c 4 ++ octetAt c 5 ++ octetAt c 6 ++ octetAt c 7 ∧
      lengthOf c = (octetAt c 8).toNat * 256 + (octetAt c 9).toNat) ∧
  (∀ (k : Bank) (q : W32),
    k.accepts q = true ↔
      k.highest.toNat < q.toNat ∨
        (k.highest.toNat < q.toNat + 64 ∧ k.seen.getLsbD (k.highest.toNat - q.toNat) = false)) ∧
  ∀ (s : State) (c : List Byte), s.Clocked → s.receiver = { state := .frame, staging := c } → 20 ≤ c.length →
    c.length ≤ 1538 →
    let a := channelOf c
    let r := s.assoc a
    let own := destinationOf c = s.identity.station.toNat ∨ destinationOf c = 15
    let leaves (t : State) : Prop :=
      exec .trunkFrameArrival s = .next { t.lineTo t.access with receiver := { state := .opened, staging := [] } }
    (¬CheckHolds c → leaves (s.countStation .crcBad)) ∧
    (CheckHolds c → ¬FormHolds c → leaves (s.countStation .malformed)) ∧
    (CheckHolds c → FormHolds c →
      (¬own → leaves s) ∧
      (destinationOf c = 15 → a = 0 → leaves (s.countStation .misaddressed)) ∧
      (own → a ≠ 0 → s.management.serviceOn = false → leaves (s.countStation .serviceDrop)) ∧
      (own → ¬(destinationOf c = 15 ∧ a = 0) → (a = 0 ∨ s.management.serviceOn = true) →
        (r.state = .vacant ∨ r.state = .suspended ∨ r.state = .closing ∨ r.direction = .outbound →
          leaves (s.countAssoc a .stateDrop)) ∧
        (r.state = .live ∨ r.state = .pending → r.direction ≠ .outbound →
          ((∀ b, ¬(r.bank b).Qualifies (generationOf c)) → leaves (s.countAssoc a .staleGen)) ∧
          (∀ b, (r.bank b).Qualifies (generationOf c) →
            ¬(b = .bankB ∧ (r.bank .bankA).Qualifies (generationOf c)) →
            ((r.bank b).accepts (sequenceOf c) = false → leaves (s.countAssoc a .replay)) ∧
            ((r.bank b).accepts (sequenceOf c) = true → 16 ≤ s.engine.inbound.length →
              leaves (s.countAssoc a .queueDrop))))))

/-- R69, R76: an arrival that passes every test joins the Inbound Work Queue at the tail, as the item R39 lists; with the
engine BUSY nothing else happens. What the tests and the fields are in octets is stated in ArrivalFailsAtTheFirstTest. -/
def Obligations.ArrivalThatPassesJoinsTheInboundQueue : Prop :=
  ∀ (s : State) (c : List Byte) (b : BankId), s.Clocked → s.Busy → s.receiver = { state := .frame, staging := c } →
    20 ≤ c.length → c.length ≤ 1538 → CheckHolds c → FormHolds c →
    destinationOf c = s.identity.station.toNat ∨ (destinationOf c = 15 ∧ channelOf c ≠ 0) →
    channelOf c = 0 ∨ s.management.serviceOn = true →
    (s.assoc (channelOf c)).state = .live ∨ (s.assoc (channelOf c)).state = .pending →
    (s.assoc (channelOf c)).direction ≠ .outbound →
    (s.bank (channelOf c) b).Qualifies (generationOf c) →
    ¬(b = .bankB ∧ (s.bank (channelOf c) .bankA).Qualifies (generationOf c)) →
    (s.bank (channelOf c) b).accepts (sequenceOf c) = true → s.engine.inbound.length < 16 →
    exec .trunkFrameArrival s = .next
      { s.lineTo s.access with
        receiver := { state := .opened, staging := [] }
        engine :=
          { s.engine with
            inbound := s.engine.inbound ++
              [{ assoc := channelOf c, bank := b, generation := generationOf c, sequence := sequenceOf c,
                 header := c.take 10, ciphertext := (c.drop 10).take (lengthOf c),
                 tag := (c.drop (10 + lengthOf c)).take 8 }] } }

/-! ## The line watch and the access state machine -/

/-- R83, R84, R86, R92: line-quiet, open-gap and a claim by another station, in every access state; and each single 1 bit in
REST, which counts and raises line-quiet or open-gap where the count comes to it. That LINE_QUIET and OPEN_GAP stand for the
bits up to their event is log entry 13. -/
def Obligations.RestEventsMoveTheAccessState : Prop :=
  ∀ s : State, s.Clocked → s.access.watch = .rest →
    let x := s.access
    (x.idleCount < 16 →
      exec .lineQuiet s = .next (s.lineTo
        { x with idleCount := 16, state := if x.state = .listen then s.sendQueue.turn else x.state })) ∧
    (16 ≤ x.idleCount → x.state ≠ .deferred →
      exec .openGap s = .next (s.lineTo { x with idleCount := 16 * (x.idleCount / 16 + 1) })) ∧
    (16 ≤ x.idleCount → x.state = .deferred →
      exec .openGap s = .next (s.lineTo
        { x with
          idleCount := 16 * (x.idleCount / 16 + 1)
          openGaps := x.openGaps + 1
          state := if x.openGaps = 0 then .deferred else s.sendQueue.turn })) ∧
    (x.idleCount = 15 → exec (.lineWatchOctet .idleBit) s = exec .lineQuiet s) ∧
    (16 ≤ x.idleCount → (x.idleCount + 1) % 16 = 0 → exec (.lineWatchOctet .idleBit) s = exec .openGap s) ∧
    ((x.idleCount + 1) % 16 ≠ 0 →
      exec (.lineWatchOctet .idleBit) s = .next (s.lineTo { x with idleCount := x.idleCount + 1 })) ∧
    exec .claimByOtherStation s = .next (s.lineTo
      { x with
        watch := .claim, idleCount := 0, stationBits := 0
        openGaps := if x.state = .deferred then 0 else x.openGaps })

/-- R83: the line watch takes the three station bits of a claim, octets in BOUNDARY, FRAME and ESCAPED, the octet 0xFF that
ends a busy period, and the octet that takes its count past 3,076. That an octet 0xC9 leads to BOUNDARY whatever the count
is the model's reading: log entry 20; that the operand for the third station bit stands for those before it too is log entry
13. -/
def Obligations.LineWatchFollowsTheTable : Prop :=
  ∀ s : State, s.Clocked →
    let x := s.access
    (x.watch = .claim →
      exec (.lineWatchOctet .thirdStationBit) s = .next (s.lineTo { x with watch := .boundary, stationBits := 0 }) ∧
      (x.stationBits < 2 →
        exec (.lineWatchOctet .stationBit) s = .next (s.lineTo { x with stationBits := x.stationBits + 1 })) ∧
      (2 ≤ x.stationBits →
        exec (.lineWatchOctet .stationBit) s = .next (s.lineTo { x with watch := .boundary, stationBits := 0 }))) ∧
    (x.watch = .boundary →
      exec .busyPeriodEnd s = .next (s.lineTo { x with watch := .rest, idleCount := 8 }) ∧
      ∀ o : Byte, o ≠ 0xFF → exec (.lineWatchOctet (.octet o)) s = .next (s.lineTo
        (if o = 0xC9 then x
         else if o = 0xCA then { x with watch := .escaped, octetCount := 1 }
         else { x with watch := .frame, octetCount := 1 }))) ∧
    (x.watch = .frame ∨ x.watch = .escaped →
      exec (.lineWatchOctet (.octet 0xC9)) s = .next (s.lineTo
        { x with watch := .boundary, octetCount := x.octetCount + 1 }) ∧
      (∀ o : Byte, o ≠ 0xC9 → x.octetCount < 3076 → exec (.lineWatchOctet (.octet o)) s = .next (s.lineTo
        { x with
          watch := if x.watch = .frame ∧ o = 0xCA then .escaped else .frame
          octetCount := x.octetCount + 1 })) ∧
      (∀ o : Byte, o ≠ 0xC9 → 3076 ≤ x.octetCount → exec (.lineWatchGuard o) s = .next (s.lineTo
        { x with watch := .rest, idleCount := 0, octetCount := x.octetCount + 1 })))

/-- R86, R87: the start of the station's own claim, whose four bits are a start bit 0 and the station's number, most
significant bit first; and a lost claim at each of its four bits: nothing more is driven of it. Which bits the line watch
takes with the command is the model's reading: log entry 13. That a start bit which reads back as 1 leaves the line watch in
REST with the idle count running, and that such a lost claim leaves a station which starts its next claim on the line that is
still quiet, R86 being taken over R87's wait for the next line-quiet, is the model's choice: log entry 32. -/
def Obligations.ClaimsStartAndAreLost : Prop :=
  ∀ s : State, s.Clocked →
    let x := s.access
    let n := s.identity.station
    let driven : Transmission := .claim [false, n.getLsbD 2, n.getLsbD 1, n.getLsbD 0]
    (x.state = .reserved → x.pace = .go → x.watch = .rest → 16 ≤ x.idleCount →
      exec (.claimStart true) s = .next (s.lineTo
        { x with state := .claiming, watch := .claim, idleCount := 0, stationBits := 0, transmission := driven }) ∧
      exec (.claimStart false) s = .next (s.lineTo
        { x with state := .claiming, idleCount := x.idleCount + 1, transmission := driven })) ∧
    (x.state = .claiming → ∀ b : Fin 4,
      exec (.claimLost b) s = .next ((s.countStation .claimLoss).lineTo
        { x with
          state := .reserved, transmission := .none
          watch := if b = 3 ∧ x.watch = .claim then .boundary else x.watch
          stationBits := if x.watch = .claim then (if b = 3 then 0 else b.val) else x.stationBits }))

/-- R81, R87, R88: a won claim. With PACE at GO the station goes to SENDING with the oldest frame of the highest class
filled, behind an opening delimiter; with PACE at HOLD it sends nothing and returns to RESERVED. R83: the line watch comes to
BOUNDARY with the claim's last bit. That the first frame is held as chosen from CLAIM_WON on is log entry 27, and that
CLAIM_WON takes the station bits not given before is log entry 13. -/
def Obligations.WonClaimSendsTheHighestClass : Prop :=
  ∀ (s : State) (c : TrafficClass) (f : SealedFrame) (l : List SealedFrame), s.Clocked →
    s.access.state = .claiming → s.access.watch = .claim →
    (s.access.pace = .go → s.sendQueue.filled c = f :: l →
      (c = .urgent ∨ c = .bulk → s.sendQueue.control = []) → (c = .bulk → s.sendQueue.urgent = []) →
      exec .claimWon s = .next (s.lineTo
        { s.access with
          state := .sending, watch := .boundary, stationBits := 0, sentInBurst := 0
          transmission := .frame c ([0xC9] ++ stuff f.contents ++ [0xC9]) })) ∧
    (s.access.pace = .hold →
      exec .claimWon s = .next (s.lineTo
        { s.access with state := .reserved, watch := .boundary, stationBits := 0, transmission := .none }))

/-- R82, R88, R168: the frame in transmission leaves, the consecutive-clash count becomes 0, and the burst ends at the
limit, with PACE at HOLD or with nothing filled, and else goes on with the next frame: the oldest of the highest class that
is filled. The leaving of the RESTART answer's frame brings the soft reset. That the next frame is held as chosen from
FRAME_SENT on is log entry 27; that a soft reset holds the part until START_UP comes is log entry 18. -/
def Obligations.SentFrameLeavesAndTheBurstGoesOn : Prop :=
  ∀ (s : State) (c : TrafficClass) (f : SealedFrame) (l : List SealedFrame) (o : List Byte), s.Clocked → s.Busy →
    s.access.state = .sending → s.access.transmission = .frame c o → s.sendQueue.filled c = f :: l →
    let q := s.sendQueue.setFilled c l
    (f.restartMark = false ∨ s.management.restartTakenAt = none →
      exec .frameSent s = .next { s.lineTo
        { s.access with
          clashes := 0
          sentInBurst := s.access.sentInBurst + 1
          transmission :=
            if s.management.settings.burstLimit.toNat ≤ s.access.sentInBurst + 1 ∨ s.access.pace = .hold then .ended
            else q.nextTransmission false } with sendQueue := q }) ∧
    (q.control = [] ∧ q.urgent = [] ∧ q.bulk = [] → q.nextTransmission false = .ended) ∧
    (∀ (d : TrafficClass) (g : SealedFrame) (m : List SealedFrame), q.filled d = g :: m →
      (d = .urgent ∨ d = .bulk → q.control = []) → (d = .bulk → q.urgent = []) →
      q.nextTransmission false = .frame d (stuff g.contents ++ [0xC9])) ∧
    (f.restartMark = true → s.management.restartTakenAt.isSome = true → exec .frameSent s = .next s.softReset)

/-- R65, R89, R90: a clash counts and begins the abort sequence; a release leads to DEFERRED when a frame of the burst was
sent and to RESERVED otherwise. R89, R91: the release after the third consecutive clash enters STANDOFF for
10 ms × (1 + serial mod 32) and hands over a STATION_CLASH report of severity 3; the expiry, when the millisecond count
comes to it, leads to RESERVED. The count's coming to the deadline with the expiry is log entry 6. -/
def Obligations.ClashesReleasesAndStandoff : Prop :=
  (∀ s : State, s.Clocked → s.access.state = .sending →
      let x := s.access
      (∀ (c : TrafficClass) (o : List Byte), x.transmission = .frame c o →
        exec .clash s = .next ((s.countStation .clash).lineTo
          { x with clashes := x.clashes + 1, transmission := .aborting .clash [0xCA, 0xC9] })) ∧
      (x.transmission = .ended ∨ (∃ o, x.transmission = .aborting .pace o) ∨
          ((∃ o, x.transmission = .aborting .clash o) ∧ x.clashes < 3) →
        (x.sentInBurst = 0 →
          exec .burstRelease s = .next (s.lineTo { x with state := .reserved, transmission := .none })) ∧
        (x.sentInBurst ≠ 0 →
          exec .burstRelease s = .next (s.lineTo
            { x with state := .deferred, openGaps := 0, transmission := .none, sentInBurst := 0 })))) ∧
  (∀ (s : State),
      (s.Clocked → s.Busy → s.access.state = .sending → (∃ o, s.access.transmission = .aborting .clash o) →
        3 ≤ s.access.clashes →
        exec .burstRelease s = .next
          ((s.lineTo
            { s.access with
              state := .standoff, clashes := 0, transmission := .none, sentInBurst := 0
              standoffDeadline := some (s.time.milliseconds + 10 * (1 + s.provisioning.serial.toNat % 32)) }).handReport
            { kind := .stationClash, severity := 3, source := .absent, value := none })) ∧
      (∀ t : Nat, s.power.running = true → s.access.state = .standoff → s.access.standoffDeadline = some t →
        s.Unobstructed t →
        let u := s.comesTo t
        exec .standoffExpiry s = .next
          { u with access := { u.access with state := .reserved, standoffDeadline := none } }))

/-- R93, R94: HOLD and GO. A HOLD during a frame aborts it and counts PACE_ABORT; one in the last octet of its closing
delimiter lets the frame end; one before the first bit of the frame that comes next, at a frame boundary or after the claim,
ends the burst with a release and no count; in every other case PACE alone changes. That the operand says where the HOLD
falls is log entry 27. -/
def Obligations.PaceHoldAbortsAFrameAndGoRestores : Prop :=
  ∀ s : State, s.power.running = true →
    let x := s.access
    (x.pace = .go → (∃ c o, x.transmission = .frame c o) → x.state = .sending →
      exec (.paceHold .inFrame) s = .next ((s.countStation .paceAbort).modAccess (fun _ =>
        { x with pace := .hold, transmission := .aborting .pace [0xCA, 0xC9] })) ∧
      exec (.paceHold .inLastOctet) s = .next (s.modAccess (fun _ => { x with pace := .hold })) ∧
      exec (.paceHold .atBoundary) s = .next (s.modAccess (fun _ =>
        { x with pace := .hold, transmission := .ended }))) ∧
    (x.pace = .go → ((∀ c o, x.transmission ≠ .frame c o) ∨ x.state ≠ .sending) → ∀ p,
      exec (.paceHold p) s = .next (s.modAccess (fun _ => { x with pace := .hold }))) ∧
    (x.pace = .hold → exec .paceGo s = .next (s.modAccess (fun _ => { x with pace := .go })))

/-- R77, R95, R96, R97: a clock loss counts CLOCK_LOSS, cuts off a frame in reception with MALFORMED, sends the receiver to
HUNT and the controller to LISTEN, and hands over a TRUNK_CLOCK report of severity 3; the queue's frames stay. The return
puts the line watch in REST with idle count 0. That the millisecond count comes to the end of the clock-loss measure with
the command is the model's choice: log entry 6. -/
def Obligations.TrunkClockLossAndReturn : Prop :=
  ∀ s : State,
    (∀ t : Nat, s.Busy → s.access.clockDeadline = some t → s.Unobstructed t →
      let cut := if s.receiver.state = .frame ∨ s.receiver.state = .escaped
        then (s.countStation .clockLoss).countStation .malformed else s.countStation .clockLoss
      exec .trunkClockLoss s = .next
        ({ cut with
            time := (s.comesTo t).time
            receiver := { state := .hunt, staging := [] }
            access :=
              { s.access with
                state := .listen, clashes := 0, sentInBurst := 0, transmission := .none, standoffDeadline := none
                clockDeadline := none, openGaps := if s.access.state = AccessState.deferred then 0 else s.access.openGaps }
          }.handReport { kind := .trunkClock, severity := 3, source := .absent, value := none })) ∧
    (s.power.running = true → s.access.clockDeadline = none →
      exec .trunkClockReturn s = .next (s.lineTo { s.access with watch := .rest, idleCount := 0, stationBits := 0 }))

/-! ## The Shop Port and the Flow Classifier -/

/-- R22 to R31: what a shop frame that is not enqueued counts: SHOP_BAD, SERVICE_DROP, UNMATCHED; a DISCARD entry's hit; a
PROTECT entry's hit with STATE_DROP or QUEUE_DROP. The receive buffer is empty after. -/
def Obligations.ShopFrameIsDroppedAndCounted : Prop :=
  ∀ (s : State) (octets : List Byte) (mark : Bool), s.power.running = true →
    let frame := s.shop.receive ++ octets
    let plaintext := frame.take (frame.length - 4)
    let leaves (t : State) : Prop :=
      exec (.shopFrameArrival octets mark) s = .next { t with shop := { s.shop with receive := [] } }
    (frame.length < 64 ∨ 1522 < frame.length ∨ mark = true ∨
        frame.drop (frame.length - 4) ≠ frameCheckOctets plaintext → leaves (s.countStation .shopBad)) ∧
    (shopFramePasses frame mark = true →
      (s.management.serviceOn = false → leaves (s.countStation .serviceDrop)) ∧
      (s.management.serviceOn = true →
        ((∀ i, (s.flowEntry i).accepts (parseFrame plaintext) = false) → leaves (s.countStation .unmatched)) ∧
        (∀ i : Fin 48, (s.flowEntry i).accepts (parseFrame plaintext) = true →
          (∀ j : Fin 48, j < i → (s.flowEntry j).accepts (parseFrame plaintext) = false) →
          let hit := s.setFlow i { s.flowEntry i with hits := satInc (s.flowEntry i).hits }
          ((s.flowEntry i).action = 0 → leaves hit) ∧
          ((s.flowEntry i).action ≠ 0 → ∀ a : AssocId, (s.flowEntry i).association.toNat = a.val →
            ((s.assoc a).state ≠ .live ∨ (s.assoc a).direction = .inbound → leaves (hit.countAssoc a .stateDrop)) ∧
            ((s.assoc a).state = .live → (s.assoc a).direction ≠ .inbound → 16 ≤ s.engine.outbound.length →
              leaves (hit.countAssoc a .queueDrop))))))

/-- R29 to R32: a frame whose first matching entry protects it under a LIVE association that allows outbound traffic joins
the Outbound Work Queue at the tail, with the entry's hit; with the engine BUSY nothing else happens. -/
def Obligations.ProtectedShopFrameJoinsTheOutboundQueue : Prop :=
  ∀ (s : State) (octets : List Byte) (i : Fin 48) (a : AssocId), s.Busy → s.management.serviceOn = true →
    let frame := s.shop.receive ++ octets
    let plaintext := frame.take (frame.length - 4)
    shopFramePasses frame false = true → (s.flowEntry i).accepts (parseFrame plaintext) = true →
    (∀ j : Fin 48, j < i → (s.flowEntry j).accepts (parseFrame plaintext) = false) →
    (s.flowEntry i).action = 1 → (s.flowEntry i).association.toNat = a.val →
    (s.assoc a).state = .live → (s.assoc a).direction = .both ∨ (s.assoc a).direction = .outbound →
    s.engine.outbound.length < 16 →
    exec (.shopFrameArrival octets false) s = .next
      { s.setFlow i { s.flowEntry i with hits := satInc (s.flowEntry i).hits } with
        shop := { s.shop with receive := [] }
        engine :=
          { s.engine with
            outbound := s.engine.outbound ++
              [{ assoc := a, plaintext := plaintext, restartMark := false, setsMark := false }] } }

/-- R36: the transmit side: the start with the head frame, its padding and a fresh check, when the MAC side is ready; the
end, at which the frame leaves and the next begins when one waits and the MAC side is ready. With the MAC side not ready
nothing starts. That the ready input is held as the two commands last gave it, also where SHOP_TRANSMISSION_END comes with no
frame in transmission, is the model's choice: log entry 17. -/
def Obligations.ShopTransmissionStartsAndEnds : Prop :=
  ∀ s : State, s.power.running = true →
    (s.shop.transmit = .idle → ∀ (f : List Byte) (l : List (List Byte)), s.shop.delivery = f :: l →
      exec .shopTransmitStart s = .next
        { s with shop := { s.shop with macReady := true, transmit := .sending (shopFrameOctets f) } }) ∧
    (s.shop.transmit ≠ .idle ∨ s.shop.delivery = [] →
      exec .shopTransmitStart s = .next { s with shop := { s.shop with macReady := true } }) ∧
    (s.shop.transmit = .idle →
      exec (.shopTransmissionEnd false) s = .next { s with shop := { s.shop with macReady := false } } ∧
      exec (.shopTransmissionEnd true) s = exec .shopTransmitStart s) ∧
    (∀ o : List Byte, s.shop.transmit = .sending o →
      (∀ ready : Bool, s.shop.delivery.length ≤ 1 →
        exec (.shopTransmissionEnd ready) s = .next
          { s with shop := { s.shop with macReady := ready, transmit := .idle, delivery := [] } }) ∧
      (∀ (f g : List Byte) (l : List (List Byte)), s.shop.delivery = f :: g :: l →
        exec (.shopTransmissionEnd true) s = .next
          { s with
            shop :=
              { s.shop with macReady := true, transmit := .sending (shopFrameOctets g), delivery := g :: l } } ∧
        exec (.shopTransmissionEnd false) s = .next
          { s with shop := { s.shop with macReady := false, transmit := .idle, delivery := g :: l } }))

/-! ## The Cipher Engine -/

/-- R49, R50, R52, R58: an item that passes the tests of its admission is bound: its cost, its counts, its reserved place and
sequence, and what the engine computes; else it is refused and counted, an outbound item with STATE_DROP where its association
is not LIVE, is INBOUND or has no ACTIVE bank. R18, R116: a refusal for want of wear or sequence
room counts EXHAUST_DROP and sets the bank's exhausted flag; the first, the flag being clear, hands over a KEY_EXHAUSTED
report of severity 4. R103: a refused unwrap item ends its transaction with REFUSED, whatever its target, as
transactionEnded spells out: the answer (R100), then the move of a CLOSING target to VACANT where its count comes to 0 (R3,
R6) or the RENEW_REQUEST of a target that becomes renewal-due (R113, R114); for want of wear room the order of that end and
of the exhaustion is left open, a free choice (log entry 3). R43: the arbiter takes an unwrap item first, then of the two
sides that are ready the one not served last; an outbound head is eligible when a place of its class is free. That an
answer which clears the answer-outstanding mark is admitted or refused before a message is taken at that event (R158) is the
model's choice: log entry 40. What sealFrame, applyKeystream and frameTag compute is stated in SealedFramesReadAsWritten, and
unwrappedKey and wrapCheckPasses in UnwrapCompletionInstallsTheKey. -/
def Obligations.OutboundAdmissionBindsTheItem : Prop :=
  let exhausted (s : State) (a : AssocId) (b : BankId) : State :=
    let t := s.countAssoc a .exhaustDrop
    if (s.bank a b).exhausted then t
    else
      ({ t with assocs := t.assocs.set a ((t.assoc a).setBank b { s.bank a b with exhausted := true }) } : State).handReport
        { kind := .keyExhausted, severity := 4, source := .association a, value := none }
  (∀ (s : State) (i : OutItem),
    let r := s.assoc i.assoc
    r.state ≠ .live ∨ r.direction = .inbound ∨ (∀ b, (r.bank b).state ≠ .active) →
      s.admitOutbound i = s.countAssoc i.assoc .stateDrop) ∧
  (∀ (s : State) (i : OutItem) (b : BankId),
    let r := s.assoc i.assoc
    let k := r.bank b
    let w := frameCost i.plaintext.length
    r.BanksInOrder → k.state = .active →
    (r.state = .live → r.direction ≠ .inbound → k.nextSequence ≠ 4294967295 →
      k.wear.toNat + w ≤ r.policy.hardLimit.toNat →
      s.admitOutbound i =
        ({ s with
            assocs := s.assocs.set i.assoc
              { r.setBank b
                  { k with wear := k.wear + BitVec.ofNat 32 w, inUse := k.inUse + 1, nextSequence := k.nextSequence + 1 }
                with inFlight := r.inFlight + 1 }
            sendQueue :=
              { s.sendQueue with
                reserved := s.sendQueue.reserved ++
                  [({ place := s.classOf i.assoc, restartMark := i.restartMark } : ReservedPlace)] }
            engine :=
              { s.engine with
                current := some (.outbound i.assoc b (s.classOf i.assoc)
                  (sealFrame k.key s.identity.station i.assoc k.generation k.nextSequence i.restartMark
                    i.plaintext)) } }.evaluateDue i.assoc)) ∧
    (r.state = .live → r.direction ≠ .inbound →
      k.nextSequence = 4294967295 ∨ r.policy.hardLimit.toNat < k.wear.toNat + w →
      s.admitOutbound i = exhausted s i.assoc b)) ∧
  (∀ (s : State) (i : InItem),
    let r := s.assoc i.assoc
    let k := r.bank i.bank
    let w := frameCost i.ciphertext.length
    let usable := (k.state = .active ∨ k.state = .fresh ∨ k.state = .draining) ∧ k.generation = i.generation
    (r.state ≠ .live ∨ r.direction = .outbound → s.admitInbound i = s.countAssoc i.assoc .stateDrop) ∧
    (r.state = .live → r.direction ≠ .outbound →
      (¬usable → s.admitInbound i = s.countAssoc i.assoc .staleGen) ∧
      (usable → k.wear.toNat + w ≤ r.policy.hardLimit.toNat →
        s.admitInbound i =
          ({ s with
              assocs := s.assocs.set i.assoc
                { r.setBank i.bank { k with wear := k.wear + BitVec.ofNat 32 w, inUse := k.inUse + 1 } with
                  inFlight := r.inFlight + 1 }
              engine :=
                { s.engine with
                  current := some (.inbound i
                    (applyKeystream k.key i.assoc 0xF0 k.generation i.sequence i.ciphertext)
                    (frameTag k.key i.header i.ciphertext)) } }.evaluateDue i.assoc)) ∧
      (usable → r.policy.hardLimit.toNat < k.wear.toNat + w → s.admitInbound i = exhausted s i.assoc i.bank))) ∧
  (∀ (s : State) (i : UnwrapItem),
    let r := s.assoc 0
    let k := r.bank i.bank
    let usable := (k.state = .active ∨ k.state = .fresh ∨ k.state = .draining) ∧ k.generation = i.bankGeneration
    (usable → k.wear.toNat + 6 ≤ r.policy.hardLimit.toNat →
      s.admitUnwrap i =
        ({ s with
            assocs := s.assocs.set 0 (r.setBank i.bank { k with wear := k.wear + 6, inUse := k.inUse + 1 })
            engine :=
              { s.engine with
                current := some (.unwrap i (unwrappedKey k.key i) (wrapCheckPasses k.key i)) } }.evaluateDue 0)) ∧
    (∀ tr : Transaction, (s.assoc i.target).transaction = some tr →
      (¬usable → s.admitUnwrap i = s.transactionEnded i.target tr 5) ∧
      (usable → r.policy.hardLimit.toNat < k.wear.toNat + 6 →
        let t : State := { s with free := s.free + 1 }
        s.admitUnwrap i =
          if Config.firstOrder s.free then (exhausted t 0 i.bank).transactionEnded i.target tr 5
          else exhausted (t.transactionEnded i.target tr 5) 0 i.bank))) ∧
  (∀ s : State,
    let q := s.sendQueue
    let traffic := q.urgent.length + q.bulk.length + (q.reserved.filter (fun p => p.place != .control)).length
    let places := q.control.length + q.urgent.length + q.bulk.length + q.reserved.length
    let eligible := ∃ i l, s.engine.outbound = i :: l ∧ places < 32 ∧
      (i.assoc = 0 ∨ (s.assoc i.assoc).trafficClass = .control ∨ traffic < 28)
    (s.engine.current.isSome = true → s.arbiterChoice = none) ∧
    (s.engine.current = none →
      (∀ i l, s.engine.unwrap = i :: l →
        s.arbiterChoice = some .unwrap ∧
          s.serve .unwrap = ({ s with engine := { s.engine with unwrap := l } } : State).admitUnwrap i) ∧
      (s.engine.unwrap = [] →
        (s.engine.inbound = [] → ¬eligible → s.arbiterChoice = none) ∧
        (∀ i l, s.engine.inbound = i :: l → ¬eligible ∨ s.engine.lastServed = .outbound →
          s.arbiterChoice = some .inbound ∧
            s.serve .inbound =
              ({ s with engine := { s.engine with inbound := l, lastServed := .inbound } } : State).admitInbound i) ∧
        (∀ i l, eligible → s.engine.outbound = i :: l → s.engine.inbound = [] ∨ s.engine.lastServed = .inbound →
          s.arbiterChoice = some .outbound ∧
            s.serve .outbound =
              ({ s with
                  engine := { s.engine with outbound := l, lastServed := .outbound }
                  management :=
                    { s.management with
                      answerOutstanding := s.management.answerOutstanding && !i.setsMark } } : State).admitOutbound i))))

/-- R51: outbound completion with nothing waiting. LIVE: the frame fills its reserved place at the tail of its class, a
controller in IDLE goes to RESERVED, ENCIPHERED is counted. SUSPENDED: the place is freed, STATE_DROP is counted. Both: the
engine is IDLE, the counts fall. CLOSING with this the last item: the association becomes VACANT. R15, R16: the bank's in-use
count falls by 1, and a RETIRING bank with its last item becomes EMPTY, its contents those of R12. -/
def Obligations.OutboundCompletionFillsOrFreesThePlace : Prop :=
  ∀ (s : State) (a : AssocId) (b : BankId) (c : TrafficClass) (f : SealedFrame) (m : Bool), s.NothingWaits →
    s.engine.current = some (.outbound a b c f) → s.sendQueue.reserved = [{ place := c, restartMark := m }] →
    let r := s.assoc a
    let k := r.bank b
    let empty : Bank :=
      { state := .empty, generation := 0, key := 0, wear := 0, nextSequence := 1, highest := 0, seen := 0, keyAge := 0
        exhausted := false, inUse := 0, drainDeadline := none }
    let released : Bank := if k.state = .retiring ∧ k.inUse ≤ 1 then empty else { k with inUse := k.inUse - 1 }
    let done (x : AssocCounter) : Assoc :=
      { r.setBank b released with
        inFlight := r.inFlight - 1, counters := r.counters.set x.index (satInc r.counters[x.index]) }
    let idle : State := { s with engine := { s.engine with current := none } }
    (r.state = .live →
      exec .outboundCompletion s = .next
        { idle with
          assocs := s.assocs.set a (done .enciphered)
          sendQueue := { s.sendQueue with reserved := [] }.setFilled c (s.sendQueue.filled c ++ [f])
          access := if s.access.state = .idle then { s.access with state := .reserved } else s.access }) ∧
    (r.state = .suspended ∨ (r.state = .closing ∧ 1 < r.inFlight) →
      exec .outboundCompletion s = .next
        { idle with
          assocs := s.assocs.set a (done .stateDrop)
          sendQueue := { s.sendQueue with reserved := [] } }) ∧
    (r.state = .closing → r.inFlight = 1 →
      exec .outboundCompletion s = .next
        { idle with
          assocs := s.assocs.set a
            { r with
              state := .vacant, selector := .bankA, bankA := empty, bankB := empty, inFlight := 0
              transaction := none, monitorRenewal := false, counters := Vector.replicate 8 0, quiet := 0
              renewDeadline := none }
          sendQueue := { s.sendQueue with reserved := [] } })

/-- R53 to R57: inbound completion, with nothing the engine can choose after it (the outbound head, if any, finds no place):
TAG_FAIL, STATE_DROP, REPLAY, or the window's update, DECIPHERED, QUIET 0 and the frame's delivery, under a bank that is not
FRESH: a traffic frame joins the Shop Delivery Queue, or DELIVERY_DROP is counted at a full one; a channel 0 frame joins the
Control Inbox with its bank, generation and sequence, or INBOX_DROP is counted at a full one (R157), here while an answer is
outstanding, so that no message is taken. In any state of the queues, a channel 0 frame whose plaintext is the message of a
command does what that command does in the state after acceptance (log entries 8 and 34). A CLOSING association becomes VACANT
with its last item. R15, R16: the bank's in-use count falls by 1, and a RETIRING bank with its last item becomes EMPTY. -/
def Obligations.InboundCompletionDecidesTheFrame : Prop :=
  ∀ (s : State) (i : InItem) (plaintext tag : List Byte), s.power.running = true →
    s.engine.current = some (.inbound i plaintext tag) →
    let settled := s.engine.inbound = [] ∧ s.engine.unwrap = [] ∧ (s.engine.outbound = [] ∨ 32 ≤ s.sendQueue.taken) ∧
      (s.management.inbox = [] ∨ s.management.answerOutstanding = true)
    let r := s.assoc i.assoc
    let k := r.bank i.bank
    let idle : State := { s with engine := { s.engine with current := none } }
    let released (k : Bank) : Bank :=
      if k.state = .retiring ∧ k.inUse ≤ 1 then emptyBank else { k with inUse := k.inUse - 1 }
    let done (x : AssocCounter) (k' : Bank) : Assoc :=
      { r.setBank i.bank (released k') with
        inFlight := r.inFlight - 1, counters := r.counters.set x.index (satInc r.counters[x.index]) }
    let refused (x : AssocCounter) : Prop :=
      exec .inboundCompletion s = .next { idle with assocs := s.assocs.set i.assoc (done x k) }
    let carried : ControlMessage :=
      { octets := plaintext, via := { bank := i.bank, generation := k.generation, sequence := i.sequence } }
    (settled → r.state ≠ .closing ∨ 1 < r.inFlight → tag ≠ i.tag → refused .tagFail) ∧
    (settled → r.state ≠ .closing ∨ 1 < r.inFlight → r.state ≠ .live → tag = i.tag → refused .stateDrop) ∧
    (settled → r.state = .closing → r.inFlight ≤ 1 →
      exec .inboundCompletion s = .next
        { idle with
          assocs := s.assocs.set i.assoc
            { r with
              state := .vacant, selector := .bankA, bankA := emptyBank, bankB := emptyBank, inFlight := 0
              transaction := none, monitorRenewal := false, counters := Vector.replicate 8 0, quiet := 0
              renewDeadline := none } }) ∧
    (settled → r.state = .live → tag = i.tag → k.accepts i.sequence = false → refused .replay) ∧
    (r.state = .live → tag = i.tag → k.accepts i.sequence = true → k.state ≠ .fresh →
      let accepted : State :=
        { idle with assocs := s.assocs.set i.assoc { done .deciphered (k.mark i.sequence) with quiet := 0 } }
      (settled → i.assoc ≠ 0 → s.shop.delivery.length < 16 →
        exec .inboundCompletion s = .next
          { accepted with shop := { s.shop with delivery := s.shop.delivery ++ [plaintext] }.start }) ∧
      (settled → i.assoc ≠ 0 → 16 ≤ s.shop.delivery.length →
        exec .inboundCompletion s = .next
          { accepted with stationCounters := (s.countStation .deliveryDrop).stationCounters }) ∧
      (settled → i.assoc = 0 → s.management.answerOutstanding = true → s.management.inbox.length < 4 →
        exec .inboundCompletion s = .next
          { accepted with
            management := { s.management with inbox := s.management.inbox ++ [carried] } }) ∧
      (settled → i.assoc = 0 → s.management.answerOutstanding = true → 4 ≤ s.management.inbox.length →
        exec .inboundCompletion s = .next
          { accepted with stationCounters := (s.countStation .inboxDrop).stationCounters }) ∧
      (i.assoc = 0 → ∀ c : Instr, messageOf c = some carried → exec .inboundCompletion s = exec c accepted))

/-- R14, R56, R107: an accepted frame under a FRESH bank promotes it at the same completion: the old ACTIVE bank drains for
the drain period, the selector flips, the new bank keeps the window with the frame's sequence. The first clause: the
acceptance itself. The others: the completion as a whole (R16, R21, R35, R57, R113, R114, R157): DECIPHERED is counted, QUIET
becomes 0, the in-use and in-flight counts fall, and the frame is delivered as any other. Renewal-due is evaluated: an
association that is not due has no renew-request timer, one that is due has it, started at the completion where it did not
run; a RENEW_REQUEST goes to the engine at once where there is control room and association 0 bears its cost. A channel 0
frame that carries the message of a command does what that command does in the state after acceptance (log entries 8, 34). -/
def Obligations.AcceptedFrameUnderAFreshBankPromotesIt : Prop :=
  (∀ (s : State) (i : InItem), (s.assoc i.assoc).Sound → (s.assoc i.assoc).state = .live →
    (s.bank i.assoc i.bank).state = .fresh → (s.bank i.assoc i.bank).accepts i.sequence = true →
    let r := s.assoc i.assoc
    let t := (s.acceptInbound i).assoc i.assoc
    (t.bank i.bank).state = .active ∧ (t.bank i.bank).nextSequence = 1 ∧ (t.bank i.bank).keyAge = 0 ∧
      (t.bank i.bank).accepts i.sequence = false ∧ (t.bank i.bank).wear = (r.bank i.bank).wear ∧
      (t.bank (otherBank i.bank)).state = .draining ∧
      (t.bank (otherBank i.bank)).drainDeadline = some (s.time.seconds.toNat + r.policy.drainPeriod.toNat) ∧
      (t.bank (otherBank i.bank)).wear = (r.bank (otherBank i.bank)).wear ∧
      (t.bank (otherBank i.bank)).highest = (r.bank (otherBank i.bank)).highest ∧
      t.selector = i.bank ∧ t.monitorRenewal = false ∧ t.quiet = 0 ∧ t.state = .live ∧ t.policy = r.policy ∧
      t.inFlight = r.inFlight ∧ t.transaction = r.transaction) ∧
  (∀ (s : State) (i : InItem) (plaintext tag : List Byte), s.power.running = true →
    s.engine.current = some (.inbound i plaintext tag) → (s.assoc i.assoc).Sound → (s.assoc i.assoc).state = .live →
    (s.bank i.assoc i.bank).state = .fresh → (s.bank i.assoc i.bank).accepts i.sequence = true → tag = i.tag →
    let settled := s.engine.inbound = [] ∧ s.engine.unwrap = [] ∧ (s.engine.outbound = [] ∨ 32 ≤ s.sendQueue.taken) ∧
      (s.management.inbox = [] ∨ s.management.answerOutstanding = true)
    let r := s.assoc i.assoc
    let k := r.bank i.bank
    let old := r.bank (otherBank i.bank)
    let drained : Bank :=
      { old with
        state := .draining, drainDeadline := some (s.time.seconds.toNat + r.policy.drainPeriod.toNat) }
    let fresh : Bank :=
      { k.mark i.sequence with state := .active, nextSequence := 1, keyAge := 0, inUse := k.inUse - 1 }
    let decided : Assoc :=
      { (r.setBank (otherBank i.bank) drained).setBank i.bank fresh with
        selector := i.bank, monitorRenewal := false, inFlight := r.inFlight - 1, quiet := 0
        counters :=
          r.counters.set AssocCounter.deciphered.index (satInc r.counters[AssocCounter.deciphered.index]) }
    let promoted : Assoc :=
      { decided with
        renewDeadline :=
          if decided.isDue = true then
            r.renewDeadline.or (some (s.time.seconds.toNat + r.policy.renewInterval.toNat))
          else none }
    let silent := decided.isDue = false ∨ r.renewDeadline.isSome = true ∨ 16 ≤ s.engine.outbound.length ∨
      32 ≤ s.sendQueue.taken
    let next : State :=
      { s with engine := { s.engine with current := none }, assocs := s.assocs.set i.assoc promoted }
    let carried : ControlMessage :=
      { octets := plaintext, via := { bank := i.bank, generation := k.generation, sequence := i.sequence } }
    (settled → silent →
      (i.assoc ≠ 0 → s.shop.delivery.length < 16 →
        exec .inboundCompletion s = .next
          { next with shop := { s.shop with delivery := s.shop.delivery ++ [plaintext] }.start }) ∧
      (i.assoc ≠ 0 → 16 ≤ s.shop.delivery.length →
        exec .inboundCompletion s = .next
          { next with stationCounters := (s.countStation .deliveryDrop).stationCounters }) ∧
      (i.assoc = 0 → s.management.answerOutstanding = true → s.management.inbox.length < 4 →
        exec .inboundCompletion s = .next
          { next with management := { s.management with inbox := s.management.inbox ++ [carried] } }) ∧
      (i.assoc = 0 → s.management.answerOutstanding = true → 4 ≤ s.management.inbox.length →
        exec .inboundCompletion s = .next
          { next with stationCounters := (s.countStation .inboxDrop).stationCounters })) ∧
    (silent → i.assoc = 0 → ∀ c : Instr, messageOf c = some carried → exec .inboundCompletion s = exec c next) ∧
    (settled → i.assoc ≠ 0 → decided.isDue = true → r.renewDeadline = none → s.engine.outbound = [] →
      s.management.inbox = [] → s.sendQueue.taken < 32 →
      ∃ t, exec .inboundCompletion s = .next t ∧ t.assoc i.assoc = promoted ∧
        (s.shop.delivery.length < 16 →
          t.shop = { s.shop with delivery := s.shop.delivery ++ [plaintext] }.start) ∧
        (16 ≤ s.shop.delivery.length →
          t.shop = s.shop ∧ t.stationCount .deliveryDrop = satInc (s.stationCount .deliveryDrop)) ∧
        ((s.assoc 0).Sound → (s.assoc 0).state = .live → (s.assoc 0).direction = .both →
          ∀ b, ((s.assoc 0).bank b).state = .active → ((s.assoc 0).bank b).nextSequence ≠ 4294967295 →
            ((s.assoc 0).bank b).wear.toNat + 6 ≤ (s.assoc 0).policy.hardLimit.toNat →
            t.engine.current = some (.outbound 0 b .control
              (sealFrame ((s.assoc 0).bank b).key s.identity.station 0 ((s.assoc 0).bank b).generation
                ((s.assoc 0).bank b).nextSequence false (renewRequestOctets i.assoc promoted fresh))))))

/-- R48: the key of an unwrap item is the wrapped one combined with keystream blocks 1 and 2 of direction 0x5A, and its
check passes when the first 8 octets of the chain over the wrap header and the two wrapped blocks are the wrap check. R59,
R99, R104, R105: what a completion comes to, in every target: its key installed as ACTIVE in bank A of a PENDING
association, or as FRESH in the bank that is not ACTIVE of a LIVE or SUSPENDED one whose other bank is free; else no key;
the transaction ended with the code, as transactionEnded spells out; the association 0 bank's in-use count falls. A failed
check counts WRAP_REJECT and hands over its report of severity 3 from the target, and its answer is BAD_VALUE (R100, R142);
which of the report and the end comes first is left open, a free choice (log entry 3). With nothing else waiting and no
control room the command comes to just this. With nothing else waiting and a target other than 0: the target's record, a
CLOSING one VACANT when its count thereby comes to 0 (R3, R6); and, with control room and a sound association 0, the answer
with the recorded tag in the engine at once, unless a report goes first. That the answer of a completion goes before the
RENEW_REQUEST which the end of the transaction may bring is the model's choice: log entry 38. -/
def Obligations.UnwrapCompletionInstallsTheKey : Prop :=
  (∀ (k : Key) (i : UnwrapItem),
    let E : Block → Block := Config.permutation k
    let sealing : BitVec 64 := BitVec.ofNat 8 i.target.val ++ (0x5A : Byte) ++ i.generation ++ i.sequence
    let stream (n : BitVec 16) : Block := E (sealing ++ (0 : BitVec 48) ++ n)
    let header : Block := sealing ++ (32 : BitVec 16) ++ (0 : BitVec 48)
    let first : Block := E (E header ^^^ i.wrapped.extractLsb' 128 128)
    let second : Block := E (first ^^^ i.wrapped.extractLsb' 0 128)
    let last : Block := E (second ^^^ ((32 : BitVec 16) ++ (0 : BitVec 112)))
    unwrappedKey k i = i.wrapped ^^^ (stream 1 ++ stream 2) ∧
      (wrapCheckPasses k i = true ↔ last.extractLsb' 64 64 = i.wrapCheck)) ∧
  (∀ (s : State) (i : UnwrapItem) (key : Key) (tr : Transaction), (s.assoc i.target).transaction = some tr →
    let r := s.assoc i.target
    let idle : State := { s with engine := { s.engine with current := none } }
    let holding (x : Assoc) : State := { idle with assocs := s.assocs.set i.target x }
    let released (t : State) : State :=
      let k := (t.assoc 0).bank i.bank
      { t with
        assocs := t.assocs.set 0
          ((t.assoc 0).setBank i.bank
            (if k.state = .retiring ∧ k.inUse ≤ 1 then emptyBank else { k with inUse := k.inUse - 1 })) }
    let reject (t : State) : State :=
      (t.countStation .wrapReject).handReport
        { kind := .wrapReject, severity := 3, source := .association i.target, value := none }
    let spent : State := { idle with free := s.free + 1 }
    s.completeUnwrap i key false =
      released
        (if Config.firstOrder s.free then (reject spent).transactionEnded i.target tr 3
         else reject (spent.transactionEnded i.target tr 3)) ∧
    (r.state = .closing → s.completeUnwrap i key true = released (idle.transactionEnded i.target tr 5)) ∧
    (r.state = .pending → (∀ b, (r.bank b).state ≠ .active) →
      s.completeUnwrap i key true =
        released
          ((holding
            { r with
              state := .live, selector := .bankA, bankA := installedBank .active i.generation key
              monitorRenewal := false }).transactionEnded i.target tr 0)) ∧
    (r.state = .live ∨ r.state = .suspended → ∀ b, (r.bank b).state = .active →
      ((r.bank (otherBank b)).state = .draining ∨ (r.bank (otherBank b)).state = .retiring →
        s.completeUnwrap i key true = released (idle.transactionEnded i.target tr 4)) ∧
      ((r.bank (otherBank b)).state = .empty ∨ (r.bank (otherBank b)).state = .fresh →
        s.completeUnwrap i key true =
          released
            ((holding
              (r.setBank (otherBank b) (installedBank .fresh i.generation key))).transactionEnded i.target tr 0))) ∧
    (∀ passes : Bool, s.NothingWaits → s.engine.current = some (.unwrap i key passes) → 32 ≤ s.sendQueue.taken →
      exec .unwrapCompletion s = .next (s.completeUnwrap i key passes))) ∧
  (∀ (s : State) (i : UnwrapItem) (key : Key) (passes : Bool) (tr : Transaction), s.NothingWaits →
      s.engine.current = some (.unwrap i key passes) → i.target ≠ 0 → (s.assoc i.target).Sound →
      (s.assoc i.target).transaction = some tr →
      ∃ t, exec .unwrapCompletion s = .next t ∧
        let r := s.assoc i.target
        let u := t.assoc i.target
        u.transaction = none ∧ u.inFlight = r.inFlight - 1 ∧ u.policy = r.policy ∧ u.direction = r.direction ∧
          u.trafficClass = r.trafficClass ∧
          (r.state = .closing → r.inFlight ≤ 1 →
            u.state = .vacant ∧ u.selector = .bankA ∧ u.bankA = emptyBank ∧ u.bankB = emptyBank ∧
              u.monitorRenewal = false ∧ u.counters = Vector.replicate 8 0 ∧ u.quiet = 0 ∧ u.renewDeadline = none) ∧
          (r.state ≠ .closing ∨ 1 < r.inFlight → u.counters = r.counters ∧ u.quiet = r.quiet) ∧
          (r.state ≠ .closing ∨ 1 < r.inFlight → r.state ≠ .pending ∨ passes = false →
            u.state = r.state ∧ u.selector = r.selector) ∧
          (passes = true → r.state = .pending →
            u.state = .live ∧ u.selector = .bankA ∧ u.bankA = installedBank .active i.generation key ∧
              u.bankB = r.bankB) ∧
          (passes = true → r.state = .live ∨ r.state = .suspended → ∀ b, (r.bank b).state = .active →
            ((r.bank (otherBank b)).state = .empty ∨ (r.bank (otherBank b)).state = .fresh →
              u.bank b = r.bank b ∧ u.bank (otherBank b) = installedBank .fresh i.generation key) ∧
            ((r.bank (otherBank b)).state = .draining ∨ (r.bank (otherBank b)).state = .retiring →
              u.bankA = r.bankA ∧ u.bankB = r.bankB)) ∧
          (r.state ≠ .closing ∨ 1 < r.inFlight → passes = false ∨ r.state = .closing →
            u.bankA = r.bankA ∧ u.bankB = r.bankB) ∧
          (passes = false → t.stationCount .wrapReject = satInc (s.stationCount .wrapReject)) ∧
          (passes = true ∨ Config.firstOrder s.free = false ∨ s.reports.pacingDeadline.isSome = true →
            s.sendQueue.taken < 32 → (s.assoc 0).Sound → (s.assoc 0).state = .live →
            (s.assoc 0).direction = .both →
            ∀ b, ((s.assoc 0).bank b).state = .active → ((s.assoc 0).bank b).nextSequence ≠ 4294967295 →
              ((s.assoc 0).bank b).wear.toNat + 4 ≤ (s.assoc 0).policy.hardLimit.toNat →
              ∃ code : Byte, t.engine.current = some (.outbound 0 b .control
                  (sealFrame ((s.assoc 0).bank b).key s.identity.station 0 ((s.assoc 0).bank b).generation
                    ((s.assoc 0).bank b).nextSequence false
                    ([0xA0, tr.tag, 0, 4, code, BitVec.ofNat 8 tr.target.val, 0] ++ word 2 tr.generation))) ∧
                (passes = false → code = 3) ∧
                (passes = true → r.state = .closing → code = 5) ∧
                (passes = true → r.state = .pending → code = 0) ∧
                (passes = true → r.state = .live ∨ r.state = .suspended → ∀ b', (r.bank b').state = .active →
                  code = if (r.bank (otherBank b')).state = .draining ∨ (r.bank (otherBank b')).state = .retiring then 4
                    else 0)))

/-! ## Management -/

/-- R158 to R161: ECHO answers its body, up to 64 octets, also while a restart is pending; a longer one is BAD_LENGTH. The
four checks of every message in their order, the codes of their answers, and the body of a rejected key message. R9: with
association 0 not LIVE, the boot epoch being spent, no control message reaches the part: none changes it (log entry 9). That
an octet a short message lacks reads as 0 in the answer is the model's choice: log entry 14. -/
def Obligations.MessagesAreCheckedAndEchoed : Prop :=
  (∀ (c : Instr) (s : State), CarriesMessage c → (s.assoc 0).state ≠ .live → exec c s = .next s) ∧
  (∀ (s : State) (via : Carrier) (tag : Byte) (body : List Byte), s.Listening →
      (body.length ≤ 64 →
        exec (.echo via tag body) s = .next
          (s.answeredWith ([0x81, tag, 0, BitVec.ofNat 8 body.length, 0] ++ body) false)) ∧
      (64 < body.length → exec (.echo via tag body) s = .next (s.answeredWith [0x81, tag, 0, 0, 6] false))) ∧
  (∀ (s : State) (via : Carrier) (octets : List Byte), s.Listening →
      let kind := octetAt octets 0
      let n := octets.length - 4
      let lengthBad := octets.length < 4 ∨ 512 < octets.length ∨ (word16At octets 2).toNat ≠ n
      let kinds : List Byte := [0x01, 0x02, 0x03, 0x10, 0x11, 0x12, 0x20, 0x21, 0x22, 0x30, 0x31, 0x38, 0x3F]
      let allowed :=
        (kind = 0x01 ∧ n ≤ 64) ∨ (kind ∈ [(0x02 : Byte), 0x21, 0x22] ∧ n = 4) ∨ (kind = 0x03 ∧ 4 ≤ n) ∨
          (kind ∈ [(0x10 : Byte), 0x11, 0x12, 0x30, 0x38] ∧ n = 1) ∨ (kind = 0x20 ∧ n = 44) ∨
          (kind = 0x31 ∧ n ∈ [2, 4, 6, 8, 10, 12, 14, 16]) ∨ (kind = 0x3F ∧ n = 0)
      let rejected (code : Byte) : Prop :=
        exec (.controlMessageInvalid via octets) s = .next (s.answeredWith
          (if kind ∈ [(0x20 : Byte), 0x21, 0x22] then
            [kind + 0x80, octetAt octets 1, 0, 4, code, octetAt octets 4, 0, octetAt octets 6, octetAt octets 7]
           else [kind + 0x80, octetAt octets 1, 0, 0, code]) false)
      (lengthBad → rejected 6) ∧
      (¬lengthBad →
        (kind ∉ kinds → rejected 1) ∧
        (kind ∈ kinds → kind ≠ 0x01 → s.management.restartTakenAt.isSome = true → rejected 4) ∧
        (kind ∈ kinds → kind = 0x01 ∨ s.management.restartTakenAt = none → ¬allowed → rejected 6)))

/-- R162: TABLE_READ: its two checks in their order, and the entries it answers, as many as fit in 504 octets; the number
of entries of each table and the octets of each. The octets of the entries of all ten tables, as "Table entries" of Formats
at the Line lays them out: SETTINGS, IDENTITY (R176), STATION_COUNTERS (R20), FLOW, ASSOC_CONFIG, ASSOC_STATUS (R11, R112),
MONITOR (R122), MONITOR_STATUS (R123), ASSOC_COUNTERS (R19, R21) and REPORT_VIEW, whose entries beyond the records are zero
(R154). Times left are those at the read; of a count that the spec bounds but gives no width the low octets are sent (log
entry 19). -/
def Obligations.TableReadAnswersTheEntries : Prop :=
  (∀ s : State,
    let flag (b : Bool) : Byte := if b then 1 else 0
    let left (deadline : Option Nat) (reading : Nat) : Nat := deadline.getD 0 - reading
    let set := s.management.settings
    let counters : List StationCounter :=
      [.shopBad, .unmatched, .serviceDrop, .crcBad, .malformed, .misaddressed, .claimLoss, .clash, .paceAbort, .clockLoss,
       .responseDrop, .inboxDrop, .reportDrop, .deliveryDrop, .wrapReject]
    s.tableEntry .settings 0 =
      [set.burstLimit, set.ackTimeout, set.reportPacing, flag s.management.serviceOn, 0, 0, 0, 0] ∧
    s.tableEntry .identity 0 =
      word 6 s.provisioning.serial ++ [BitVec.ofNat 8 s.identity.station.toNat, s.provisioning.revision] ++
        word 2 s.provisioning.epoch ++ [s.identity.cause.code, 0] ∧
    s.tableEntry .stationCounters 0 = counters.flatMap (fun c => word 4 (s.stationCount c)) ∧
    (∀ p : Fin 48,
      let e := s.flowEntry p
      s.tableEntry .flow p.val =
        [flag e.valid, e.action, e.association, flag e.ethertypeGiven] ++ word 2 e.laneMatch ++ word 2 e.ethertype ++
          [flag e.destinationGiven, 0] ++ word 6 e.destination ++ word 4 e.hits) ∧
    (∀ a : AssocId,
      let p := (s.assoc a).policy
      s.tableEntry .assocConfig a.val =
        [p.direction.code, p.trafficClass.code, 0, 0] ++ word 4 p.softLimit ++ word 4 p.hardLimit ++
          word 4 p.maxKeyAge ++ [p.drainPeriod, p.renewInterval, 0, 0]) ∧
    (∀ a : AssocId,
      let r := s.assoc a
      let reason (w : DueReason) (o : Byte) : Byte := if w ∈ r.dueReasons then o else 0
      let bank (k : Bank) : List Byte :=
        [k.state.code, flag k.exhausted] ++ word 2 k.generation ++ word 4 k.wear ++ word 4 k.nextSequence ++
          word 4 k.highest ++ word 4 k.keyAge ++ [BitVec.ofNat 8 k.inUse, 0] ++
          beOctets 2 (left k.drainDeadline s.time.seconds.toNat)
      s.tableEntry .assocStatus a.val =
        [r.state.code, r.direction.code, r.trafficClass.code, if r.selector = .bankA then 0 else 1] ++
          beOctets 2 r.inFlight ++ [flag r.monitorRenewal, flag r.transaction.isSome] ++
          word 2 ((r.transaction.map (fun x => x.generation)).getD 0) ++
          [reason .wear 1 + reason .age 2 + reason .sequence 4 + reason .monitor 8, 0] ++ bank r.bankA ++
          bank r.bankB) ∧
    (∀ a : AssocId,
      let r := s.assoc a
      let items : List AssocCounter :=
        [.enciphered, .deciphered, .tagFail, .replay, .staleGen, .exhaustDrop, .stateDrop, .queueDrop]
      let percent : Nat :=
        match r.activeBank with
        | none => 0
        | some b => (r.bank b).wear.toNat * 100 / r.policy.hardLimit.toNat
      s.tableEntry .assocCounters a.val =
        items.flatMap (fun c => word 4 (s.assocCount a c)) ++ word 2 r.quiet ++ [BitVec.ofNat 8 percent, 0]) ∧
    (∀ m : MonitorId,
      let r := s.monitor m
      let c := r.config
      s.tableEntry .monitor m.val =
        [flag c.enable, c.source.scopeCode, c.source.itemCode, c.sourceAssoc, c.mode.code, c.sense.code, c.period,
          c.persistence, c.latch.code, c.startupInhibit, c.severity, c.action.code, BitVec.ofNat 8 c.target.val, 0, 0,
          0] ++ word 4 c.setLevel ++ word 4 c.clearLevel ∧
      s.tableEntry .monitorStatus m.val =
        [r.state.code, flag r.baseline, BitVec.ofNat 8 r.persistenceCount, flag r.conditionGone,
          BitVec.ofNat 8 (left r.nextSample s.time.seconds.toNat), 0, 0, 0] ++ word 4 r.previous ++
          word 4 r.lastMeasured) ∧
    (∀ (n : Nat) (x : ReportRecord), s.reports.records[n]? = some x →
      s.tableEntry .reportView n =
        word 2 x.number ++ [x.kind.code, x.severity, x.source.code, x.state.code, x.resendCount, 0] ++
          word 2 x.occurrences ++ beOctets 2 (left x.ackDeadline s.time.milliseconds) ++ word 4 x.firstTime ++
          word 4 x.lastTime ++ word 4 (x.value.getD 0)) ∧
    (∀ n : Nat, s.reports.records.length ≤ n → s.tableEntry .reportView n = List.replicate 24 0)) ∧
  ∀ (s : State) (via : Carrier) (tag table first count : Byte), s.Attentive →
    let counts := [48, 32, 32, 16, 16, 1, 32, 1, 1, 24]
    let sizes := [20, 20, 60, 24, 16, 8, 36, 60, 12, 24]
    let answer (o : List Byte) : Prop := exec (.tableRead via tag table first count) s = .next (s.answeredWith o false)
    (count.toNat = 0 ∨ 16 < count.toNat → answer [0x82, tag, 0, 0, 3]) ∧
    (1 ≤ count.toNat → count.toNat ≤ 16 →
      (table.toNat = 0 ∨ 10 < table.toNat → answer [0x82, tag, 0, 0, 2]) ∧
      (∀ c size : Nat, 1 ≤ table.toNat → counts[table.toNat - 1]? = some c → sizes[table.toNat - 1]? = some size →
        (c < first.toNat + count.toNat → answer [0x82, tag, 0, 0, 2]) ∧
        (first.toNat + count.toNat ≤ c → ∃ t, TableId.ofCode table = some t ∧
          let n := min count.toNat (504 / size)
          (∀ k, k < n → (s.tableEntry t (first.toNat + k)).length = size) ∧
          answer ([0x82, tag] ++ beOctets 2 (3 + n * size) ++ [0, table, first, BitVec.ofNat 8 n] ++
            (List.range n).flatMap (fun k => s.tableEntry t (first.toNat + k))))))

/-- R163: the checks of TABLE_WRITE in their order, for all five of its commands; a write that fails one changes no entry. -/
def Obligations.TableWritesAreCheckedInOrder : Prop :=
  ∀ (s : State) (via : Carrier) (tag table first count : Byte) (entries : List Byte) (c : Instr), s.Attentive →
    (c = .tableWriteBadTable via tag table first count entries ∨
      (table = 1 ∧ c = .tableWriteFlow via tag first count entries) ∨
      (table = 2 ∧ c = .tableWriteAssocConfig via tag first count entries) ∨
      (table = 4 ∧ c = .tableWriteMonitor via tag first count entries) ∨
      (table = 6 ∧ c = .tableWriteSettings via tag first count entries)) →
    let answer (code : Byte) : Prop := exec c s = .next (s.answeredWith [0x83, tag, 0, 0, code] false)
    (504 < entries.length → answer 6) ∧
    (entries.length ≤ 504 →
      (table.toNat = 0 ∨ 10 < table.toNat → answer 2) ∧
      (table.toNat ∈ [3, 5, 7, 8, 9, 10] → answer 5) ∧
      (∀ size bound : Nat, (table, size, bound) ∈ [((1 : Byte), 20, 48), (2, 20, 32), (4, 24, 16), (6, 8, 1)] →
        (count.toNat = 0 ∨ 8 < count.toNat → answer 3) ∧
        (1 ≤ count.toNat → count.toNat ≤ 8 →
          (entries.length ≠ count.toNat * size → answer 6) ∧
          (entries.length = count.toNat * size →
            (bound < first.toNat + count.toNat → answer 2) ∧
            (first.toNat + count.toNat ≤ bound →
              (table = 1 → (∃ k, k < count.toNat ∧
                  let e := entryAt 20 entries k
                  octetAt e 0 ≠ 0 ∧
                    (laneMatchCoded (word16At e 4) = false ∨ 1 < (octetAt e 1).toNat ∨ octetAt e 2 = 0 ∨
                      31 < (octetAt e 2).toNat)) → answer 3) ∧
              (table = 2 → (∃ k, k < count.toNat ∧
                  let e := entryAt 20 entries k
                  2 < (octetAt e 0).toNat ∨ 2 < (octetAt e 1).toNat ∨
                    (octetAt e 1 = 0 ∧ first.toNat + k ≠ 0)) → answer 3) ∧
              (table = 4 → (∃ k, k < count.toNat ∧
                  let e := entryAt 24 entries k
                  1 < (octetAt e 1).toNat ∨ (octetAt e 1 = 0 ∧ 9 < (octetAt e 2).toNat) ∨
                    (octetAt e 1 = 1 ∧ 14 < (octetAt e 2).toNat) ∨ (octetAt e 1 = 0 ∧ 31 < (octetAt e 3).toNat) ∨
                    2 < (octetAt e 4).toNat ∨ 1 < (octetAt e 5).toNat ∨ 1 < (octetAt e 8).toNat ∨
                    octetAt e 10 = 0 ∨ 4 < (octetAt e 10).toNat ∨ 2 < (octetAt e 11).toNat ∨
                    31 < (octetAt e 12).toNat) → answer 3))))))

/-- R33: a write to FLOW stores the entries it names, octet by octet as R177 to R179 lay them out, with hit count 0, and
changes no other; an entry written with valid = no is stored unchecked. That a flag octet of 2 to 255 is stored as 1 in such
an entry too is the model's choice: log entry 37. R170: a write to SETTINGS stores burst limit, ack timeout and report pacing as clamped; the
service state stays. -/
def Obligations.FlowAndSettingsWritesStore : Prop :=
  (∀ (s : State) (via : Carrier) (tag first count : Byte) (entries : List Byte), s.Attentive → 1 ≤ count.toNat →
      count.toNat ≤ 8 → entries.length = 20 * count.toNat → first.toNat + count.toNat ≤ 48 →
      (∀ k, k < count.toNat →
        let e := entryAt 20 entries k
        octetAt e 0 = 0 ∨
          (laneMatchCoded (word16At e 4) = true ∧ (octetAt e 1).toNat ≤ 1 ∧ 1 ≤ (octetAt e 2).toNat ∧
            (octetAt e 2).toNat ≤ 31)) →
      let stored (e : List Byte) : FlowEntry :=
        { valid := decide (octetAt e 0 ≠ 0), action := octetAt e 1, association := octetAt e 2
          ethertypeGiven := decide (octetAt e 3 ≠ 0), laneMatch := octetAt e 4 ++ octetAt e 5
          ethertype := octetAt e 6 ++ octetAt e 7, destinationGiven := decide (octetAt e 8 ≠ 0)
          destination :=
            octetAt e 10 ++ octetAt e 11 ++ octetAt e 12 ++ octetAt e 13 ++ octetAt e 14 ++ octetAt e 15
          hits := 0 }
      exec (.tableWriteFlow via tag first count entries) s = .next
        (({ s with
            flow := Vector.ofFn (fun i : Fin 48 =>
              if first.toNat ≤ i.val ∧ i.val < first.toNat + count.toNat then
                stored (entryAt 20 entries (i.val - first.toNat))
              else s.flowEntry i) } : State).answeredWith [0x83, tag, 0, 4, 0, 1, first, count, 0] false)) ∧
  (∀ (s : State) (via : Carrier) (tag : Byte) (e : List Byte), s.Attentive → e.length = 8 →
      let burst := octetAt e 0
      let timeout := octetAt e 1
      exec (.tableWriteSettings via tag 0 1 e) s = .next
        (({ s with
            management :=
              { s.management with
                settings :=
                  { burstLimit := BitVec.ofNat 8 (max 1 (min 8 burst.toNat))
                    ackTimeout := BitVec.ofNat 8 (max 1 timeout.toNat)
                    reportPacing := octetAt e 2 } } } : State).answeredWith
          [0x83, tag, 0, 4, 0, 6, 0, 1, if burst = 0 ∨ 8 < burst.toNat ∨ timeout = 0 then 1 else 0] false))

/-- R164, R113: a write to ASSOC_CONFIG stores the policies as clamped, answers how many entries a clamp changed, and
evaluates renewal-due of the associations written. The first clause: the policy an entry's octets carry. The last clause: an
association that becomes due sends its RENEW_REQUEST beside the answer, in an order the spec leaves open (a free choice: log
entry 3). -/
def Obligations.PolicyWriteStoresAndEvaluates : Prop :=
  (∀ (a : AssocId) (e : List Byte) (p : Policy),
    policyOfOctets a e = some p ↔
      octetAt e 0 = p.direction.code ∧ octetAt e 1 = p.trafficClass.code ∧ (a ≠ 0 → p.trafficClass ≠ .control) ∧
        p.softLimit = octetAt e 4 ++ octetAt e 5 ++ octetAt e 6 ++ octetAt e 7 ∧
        p.hardLimit = octetAt e 8 ++ octetAt e 9 ++ octetAt e 10 ++ octetAt e 11 ∧
        p.maxKeyAge = octetAt e 12 ++ octetAt e 13 ++ octetAt e 14 ++ octetAt e 15 ∧
        p.drainPeriod = octetAt e 16 ∧ p.renewInterval = octetAt e 17) ∧
  ∀ (s : State) (via : Carrier) (tag first count : Byte) (entries : List Byte), s.Attentive →
    (∀ p : AssocId → Policy, 1 ≤ count.toNat → count.toNat ≤ 8 → entries.length = 20 * count.toNat →
      first.toNat + count.toNat ≤ 32 →
      let named (a : AssocId) : Prop := first.toNat ≤ a.val ∧ a.val < first.toNat + count.toNat
      (∀ a, named a → policyOfOctets a (entryAt 20 entries (a.val - first.toNat)) = some (p a)) →
      let written (a : AssocId) : Assoc := { s.assoc a with policy := clampPolicy a (s.assoc a) (p a) }
      (∀ a, named a → (written a).isDue = false) →
      exec (.tableWriteAssocConfig via tag first count entries) s = .next
        (({ s with
            free := s.free + 1
            assocs := Vector.ofFn (fun a : AssocId =>
              if first.toNat ≤ a.val ∧ a.val < first.toNat + count.toNat then { written a with renewDeadline := none }
              else s.assoc a) } : State).answeredWith
          [0x83, tag, 0, 4, 0, 2, first, count,
            BitVec.ofNat 8 ((List.finRange 32).countP (fun a : AssocId =>
              decide (first.toNat ≤ a.val ∧ a.val < first.toNat + count.toNat) &&
                decide (clampPolicy a (s.assoc a) (p a) ≠ p a)))] false)) ∧
    (∀ (a : AssocId) (p : Policy) (b : BankId), count = 1 → first.toNat = a.val → entries.length = 20 →
      policyOfOctets a entries = some p →
      let q := clampPolicy a (s.assoc a) p
      let r : Assoc := { s.assoc a with policy := q }
      r.isDue = true → r.renewDeadline = none → r.activeBank = some b → s.engine.outbound.length ≤ 14 →
      s.sendQueue.taken < 32 →
      let request : OutItem :=
        { assoc := 0, plaintext := renewRequestOctets a r (r.bank b), restartMark := false, setsMark := false }
      let answer : OutItem :=
        { assoc := 0, plaintext := [0x83, tag, 0, 4, 0, 2, first, 1, if q = p then 0 else 1], restartMark := false,
          setsMark := true }
      exec (.tableWriteAssocConfig via tag first count entries) s = .next
        { s with
          free := s.free + 1
          assocs := s.assocs.set a
            { r with renewDeadline := some (s.time.seconds.toNat + q.renewInterval.toNat) }
          engine :=
            { s.engine with
              outbound := s.engine.outbound ++
                (if Config.firstOrder s.free then [request, answer] else [answer, request]) }
          management := { s.management with answerOutstanding := true } })

/-- R130 to R132: a write to MONITOR stores the records as clamped and restarts their monitors: OFF, INHIBITED, or the
start of a first period. The first clause: the configuration an entry's octets carry, in the codes of R179. -/
def Obligations.MonitorWriteRestartsItsMonitors : Prop :=
  (∀ (e : List Byte) (c : MonitorConfig),
    monitorOfOctets e = some c ↔
      c.enable = decide (octetAt e 0 ≠ 0) ∧ octetAt e 1 = c.source.scopeCode ∧ octetAt e 2 = c.source.itemCode ∧
        c.sourceAssoc = octetAt e 3 ∧ (octetAt e 1 = 0 → (octetAt e 3).toNat ≤ 31) ∧ octetAt e 4 = c.mode.code ∧
        octetAt e 5 = c.sense.code ∧ c.period = octetAt e 6 ∧ c.persistence = octetAt e 7 ∧
        octetAt e 8 = c.latch.code ∧ c.startupInhibit = octetAt e 9 ∧ c.severity = octetAt e 10 ∧
        1 ≤ (octetAt e 10).toNat ∧ (octetAt e 10).toNat ≤ 4 ∧ octetAt e 11 = c.action.code ∧
        (octetAt e 12).toNat = c.target.val ∧
        c.setLevel = octetAt e 16 ++ octetAt e 17 ++ octetAt e 18 ++ octetAt e 19 ∧
        c.clearLevel = octetAt e 20 ++ octetAt e 21 ++ octetAt e 22 ++ octetAt e 23) ∧
  ∀ (s : State) (via : Carrier) (tag first count : Byte) (entries : List Byte) (c : MonitorId → MonitorConfig),
    s.Attentive → 1 ≤ count.toNat → count.toNat ≤ 8 → entries.length = 24 * count.toNat →
    first.toNat + count.toNat ≤ 16 →
    (∀ m : MonitorId, first.toNat ≤ m.val → m.val < first.toNat + count.toNat →
      monitorOfOctets (entryAt 24 entries (m.val - first.toNat)) = some (c m)) →
    let restarted (m : MonitorId) : Monitor :=
      let k := clampMonitor (c m)
      let start : MonitorState := if k.sense = .rise then .clear else .arming
      let inhibited : Bool := decide (s.time.seconds.toNat < k.startupInhibit.toNat)
      { config := k
        state := if k.enable then (if inhibited then .inhibited else start) else .off
        baseline := false, previous := 0, persistenceCount := 0, lastMeasured := 0, conditionGone := false
        nextSample := if k.enable ∧ inhibited = false then some (s.time.seconds.toNat + k.period.toNat) else none }
    exec (.tableWriteMonitor via tag first count entries) s = .next
      (({ s with
          monitors := Vector.ofFn (fun m : MonitorId =>
            if first.toNat ≤ m.val ∧ m.val < first.toNat + count.toNat then restarted m else s.monitor m) }
        : State).answeredWith
        [0x83, tag, 0, 4, 0, 4, first, count,
          BitVec.ofNat 8 ((List.finRange 16).countP (fun m : MonitorId =>
            decide (first.toNat ≤ m.val ∧ m.val < first.toNat + count.toNat) &&
              decide (clampMonitor (c m) ≠ c m)))] false)

/-- R4, R5, R6, R8, R165: ASSOC_OPEN, ASSOC_CLOSE and ASSOC_RESUME in every state of an association, for association 0 and
above 31. An association that closes with work in flight waits in CLOSING; one with none becomes VACANT at once. -/
def Obligations.AssociationsOpenCloseAndResume : Prop :=
  ∀ (s : State) (via : Carrier) (tag o : Byte), s.Attentive →
    (31 < o.toNat →
      exec (.assocOpen via tag o) s = .next (s.answeredWith [0x90, tag, 0, 0, 2] false) ∧
      exec (.assocClose via tag o) s = .next (s.answeredWith [0x91, tag, 0, 0, 2] false) ∧
      exec (.assocResume via tag o) s = .next (s.answeredWith [0x92, tag, 0, 0, 2] false)) ∧
    (∀ a : AssocId, o.toNat = a.val →
      let r := s.assoc a
      let store (r' : Assoc) : State := { s with assocs := s.assocs.set a r' }
      (a = 0 ∨ r.state = .pending ∨ r.state = .live ∨ r.state = .suspended →
        exec (.assocOpen via tag o) s = .next (s.answeredWith [0x90, tag, 0, 0, 5] false)) ∧
      (a ≠ 0 → r.state = .closing →
        exec (.assocOpen via tag o) s = .next (s.answeredWith [0x90, tag, 0, 0, 4] false)) ∧
      (a ≠ 0 → r.state = .vacant →
        exec (.assocOpen via tag o) s = .next ((store
          { r with
            state := .pending, direction := r.policy.direction, trafficClass := r.policy.trafficClass
            selector := .bankA }).answeredWith [0x90, tag, 0, 2, 0, o, 1] false)) ∧
      (a = 0 → exec (.assocClose via tag o) s = .next (s.answeredWith [0x91, tag, 0, 0, 5] false)) ∧
      (a ≠ 0 → r.state = .vacant →
        exec (.assocClose via tag o) s = .next (s.answeredWith [0x91, tag, 0, 2, 0, o, 0] false)) ∧
      (a ≠ 0 → r.state = .closing →
        exec (.assocClose via tag o) s = .next (s.answeredWith [0x91, tag, 0, 2, 0, o, 4] false)) ∧
      (a ≠ 0 → r.state = .pending ∨ r.state = .live ∨ r.state = .suspended → 1 ≤ r.inFlight →
        exec (.assocClose via tag o) s = .next
          ((store { r with state := .closing, renewDeadline := none }).answeredWith [0x91, tag, 0, 2, 0, o, 4] false)) ∧
      (a ≠ 0 → r.state = .pending ∨ r.state = .live ∨ r.state = .suspended → r.inFlight = 0 →
        exec (.assocClose via tag o) s = .next
          ((store
            { r with
              state := .vacant, selector := .bankA, bankA := emptyBank, bankB := emptyBank
              transaction := none, monitorRenewal := false, counters := Vector.replicate 8 0, quiet := 0
              renewDeadline := none }).answeredWith [0x91, tag, 0, 2, 0, o, 0] false)) ∧
      (r.state = .suspended →
        exec (.assocResume via tag o) s = .next
          ((store { r with state := .live }).answeredWith [0x92, tag, 0, 2, 0, o, 2] false)) ∧
      (r.state ≠ .suspended →
        exec (.assocResume via tag o) s = .next (s.answeredWith [0x92, tag, 0, 2, 0, o, r.state.code] false)))

/-- R100 to R102: KEY_OFFER: its seven checks in their order with the codes of their answers, and the transaction that
begins when all pass, without an answer at the taking. -/
def Obligations.KeyOfferChecksThenBegins : Prop :=
  ∀ (s : State) (via : Carrier) (tag o : Byte) (g : W16) (wrapped : Key) (check : BitVec 64), s.Attentive →
    let offer := exec (.keyOffer via tag o g wrapped check) s
    let answer (code : Byte) : Prop :=
      offer = .next (s.answeredWith ([0xA0, tag, 0, 4, code, o, 0] ++ word 2 g) false)
    (31 < o.toNat → answer 2) ∧
    (∀ a : AssocId, o.toNat = a.val → (s.assoc a).BanksInOrder →
      let r := s.assoc a
      let freshG := ∃ b, (r.bank b).state = .fresh ∧ (r.bank b).generation = g
      let rises := ∀ b, (r.bank b).state = .empty ∨ (r.bank b).generation.toNat < g.toNat
      let drains := ∃ b, (r.bank b).state = .active ∧
        ((r.bank (otherBank b)).state = .draining ∨ (r.bank (otherBank b)).state = .retiring)
      (r.state = .vacant ∨ r.state = .closing → answer 5) ∧
      (r.state = .pending ∨ r.state = .live ∨ r.state = .suspended →
        (r.transaction.isSome = true → answer 4) ∧
        (r.transaction = none →
          (¬rises → ¬freshG → answer 3) ∧
          (freshG → answer 0) ∧
          (rises → ¬freshG →
            (drains ∨ 4 ≤ s.engine.unwrap.length → answer 4) ∧
            (¬drains → s.engine.unwrap.length < 4 →
              offer = .next
                { s with
                  assocs := s.assocs.set a
                    { r with
                      transaction := some
                        { target := a, generation := g, tag := tag, bank := via.bank, bankGeneration := via.generation }
                      inFlight := r.inFlight + 1
                      renewDeadline := none }
                  engine :=
                    { s.engine with
                      unwrap := s.engine.unwrap ++
                        [{ target := a, generation := g, bank := via.bank, bankGeneration := via.generation,
                           sequence := via.sequence, wrapped := wrapped, wrapCheck := check }] } })))))

/-- R14, R106, R109: KEY_SWITCH and KEY_WITHDRAW: their checks in their order, the promotion, and the emptied bank. R113,
R114: a change of a bank brings the evaluation of the renewal-due condition, as renewalEvaluated spells out. That the
RENEW_REQUEST of an association which is due after the switch or the withdrawal joins the Outbound Work Queue before the
message's own answer is the model's choice: log entry 33. -/
def Obligations.KeySwitchAndWithdraw : Prop :=
  ∀ (s : State) (via : Carrier) (tag o : Byte) (g : W16), s.Attentive →
    let switched (t : State) (code : Byte) : Prop :=
      exec (.keySwitch via tag o g) s = .next (t.answeredWith ([0xA1, tag, 0, 4, code, o, 0] ++ word 2 g) false)
    let withdrawn (t : State) (code : Byte) : Prop :=
      exec (.keyWithdraw via tag o g) s = .next (t.answeredWith ([0xA2, tag, 0, 4, code, o, 0] ++ word 2 g) false)
    (31 < o.toNat → switched s 2 ∧ withdrawn s 2) ∧
    (∀ a : AssocId, o.toNat = a.val → (s.assoc a).BanksInOrder →
      let r := s.assoc a
      (r.state = .vacant ∨ r.state = .closing → switched s 5 ∧ withdrawn s 5) ∧
      (r.state = .pending ∨ r.state = .live ∨ r.state = .suspended →
        (r.transaction.isSome = true → switched s 4 ∧ withdrawn s 4) ∧
        (r.transaction = none →
          (∀ b, (r.bank b).state = .fresh → (r.bank b).generation = g →
            (∀ r' : Assoc,
              r' = { (r.setBank (otherBank b)
                    (if (r.bank (otherBank b)).state = .active then
                      { r.bank (otherBank b) with
                        state := .draining
                        drainDeadline := some (s.time.seconds.toNat + r.policy.drainPeriod.toNat) }
                     else r.bank (otherBank b))).setBank b
                    { r.bank b with state := .active, nextSequence := 1, keyAge := 0 } with
                  selector := b, monitorRenewal := false } →
              switched (s.renewalEvaluated a r') 0) ∧
            ((r.bank b).inUse ≠ 0 → withdrawn s 4) ∧
            ((r.bank b).inUse = 0 → withdrawn (s.renewalEvaluated a (r.setBank b emptyBank)) 0)) ∧
          ((∀ b, (r.bank b).state = .fresh → (r.bank b).generation ≠ g) →
            ((∃ b, (r.bank b).state = .active ∧ (r.bank b).generation = g) → switched s 0) ∧
            ((∀ b, (r.bank b).state = .active → (r.bank b).generation ≠ g) → switched s 3) ∧
            ((∀ b, (r.bank b).state ≠ .fresh) → withdrawn s 0) ∧
            ((∃ b, (r.bank b).state = .fresh) → withdrawn s 3)))))

/-- R139, R166: MONITOR_CLEAR ends FIRED and changes no other state. R167, R168: SERVICE_SET sets the service state; RESTART
makes a restart pending and marks its answer. -/
def Obligations.ClearServiceAndRestartAreTaken : Prop :=
  (∀ (s : State) (via : Carrier) (tag o : Byte), s.Attentive →
      (15 < o.toNat → exec (.monitorClear via tag o) s = .next (s.answeredWith [0xB0, tag, 0, 0, 2] false)) ∧
      (∀ m : MonitorId, o.toNat = m.val →
        ((s.monitor m).state = .fired →
          exec (.monitorClear via tag o) s = .next
            (({ s with
                monitors := s.monitors.set m
                  { s.monitor m with state := .clear, persistenceCount := 0, conditionGone := false } } : State).answeredWith
              [0xB0, tag, 0, 2, 0, o, 3] false)) ∧
        ((s.monitor m).state ≠ .fired →
          exec (.monitorClear via tag o) s = .next
            (s.answeredWith [0xB0, tag, 0, 2, 0, o, (s.monitor m).state.code] false)))) ∧
  (∀ (s : State) (via : Carrier) (tag v : Byte), s.Attentive →
      (v.toNat ≤ 1 →
        exec (.serviceSet via tag v) s = .next
          (({ s with management := { s.management with serviceOn := v == 1 } } : State).answeredWith
            [0xB8, tag, 0, 1, 0, v] false)) ∧
      (1 < v.toNat → exec (.serviceSet via tag v) s = .next (s.answeredWith [0xB8, tag, 0, 0, 3] false)) ∧
      exec (.restart via tag) s = .next
        (({ s with management := { s.management with restartTakenAt := some s.time.milliseconds } } : State).answeredWith
          [0xBF, tag, 0, 0, 0] true))

/-- R152, R166: REPORT_ACK removes the records it names and answers their number; a send attempt follows when there was
one. That the attempt comes before the answer is the model's choice: log entry 33. -/
def Obligations.ReportAckRemovesItsRecords : Prop :=
  ∀ (s : State) (via : Carrier) (tag : Byte) (numbers : List W16), s.Attentive → 1 ≤ numbers.length →
    numbers.length ≤ 8 →
    let kept := s.reports.records.filter (fun x => !numbers.contains x.number)
    let removed := s.reports.records.length - kept.length
    let answer := [0xB1, tag, 0, 1, 0, BitVec.ofNat 8 removed]
    (removed = 0 → exec (.reportAck via tag numbers) s = .next (s.answeredWith answer false)) ∧
    (removed ≠ 0 →
      exec (.reportAck via tag numbers) s = .next
        (({ s with reports := { s.reports with records := kept } } : State).sendAttempt.answeredWith answer false))

/-! ## Resets and start-up -/

/-- R37, R61, R78, R79, R98, R121, R140, R156, R168, R169, R173, R175: the restart limit's expiry holds the part in reset
with cause SOFT; a reset condition that arises holds it too, and one that ends records its cause. A held part has every
block in its state after reset; the Provisioning Store and the pins PACE and MAC-side ready stay. That the identity's last
station number and the cause stay as they were until the next start-up is the model's choice: log entry 4; that a soft reset
holds the part until START_UP comes is log entry 18; that the millisecond count comes to the restart limit with its expiry
is log entry 6; that the outbound bank selector is A after reset is log entry 39. -/
def Obligations.ResetsHoldThePart : Prop :=
  ∀ (s : State),
    let held (p : PowerState) : State :=
      { State.reset with
        pending := s.pending, free := s.free, power := p, provisioning := s.provisioning, identity := s.identity
        shop := { State.reset.shop with macReady := s.shop.macReady }
        access := { State.reset.access with pace := s.access.pace } }
    (∀ n : Nat, s.power.running = true → s.management.restartTakenAt = some n →
      s.Unobstructed (n + 2000) →
      exec .restartLimitExpiry s = .next (held { s.power with running := false, cause := .soft })) ∧
    exec (.resetCondition .power true) s = .next (held { s.power with running := false, powerPresent := true }) ∧
    exec (.resetCondition .brownout true) s = .next (held { s.power with running := false, brownoutPresent := true }) ∧
    exec (.resetCondition .pin true) s = .next (held { s.power with running := false, pinPresent := true }) ∧
    (s.power.powerPresent = true →
      exec (.resetCondition .power false) s = .next
        { s with power := { s.power with powerPresent := false, cause := .power } }) ∧
    (s.power.brownoutPresent = true →
      exec (.resetCondition .brownout false) s = .next
        { s with power := { s.power with brownoutPresent := false, cause := .brownout } }) ∧
    (s.power.pinPresent = true →
      exec (.resetCondition .pin false) s = .next
        { s with power := { s.power with pinPresent := false, cause := .pin } })

/-- R9, R155, R174, R175, R176: start-up. It advances the boot epoch by one unless that is spent; association 0 becomes
LIVE with the boot key in bank A under the new epoch as generation, or PENDING with both banks EMPTY; the boot key is E under
the provisioning key of the two derivation blocks, the serial in octets 0 to 5, the new epoch in 6 and 7, the half-index 0 or
1 in 8 and zeros in 9 to 15; the station number is that of the straps; the RESTART report with the cause goes to the engine
at once as sequence 1 under the boot key, with a CONTROL place of the Trunk Send Queue reserved, or, with the epoch spent, is
refused there with STATE_DROP. Every other association is VACANT, every block as after reset. R173, R175: a start-up that a
reset condition abandons leaves the part held, with the condition present; the epoch has advanced when the condition came
after the one write of the epoch, and not when it came before. That an abandoned start-up leaves the identity as it was, and
that the MAC-side ready input outlasts a reset, is the model's choice: log entry 4; that the outbound bank selector is A in
an association to which no rule gives one, which is all but a LIVE association 0, is log entry 39. -/
def Obligations.StartUpCompletesOrIsAbandoned : Prop :=
  (∀ (s : State) (straps : BitVec 3) (pace : Pace), s.power.running = false → s.power.anyPresent = false →
      let report : List Byte :=
        [0x60, 0, 0, 24, 0, 1, 1, 2, 0xFF, 0, 0, 0, 0, 1, 0, 0, 0, 0, 0, 0, 0, 0, 0, 0, 0, 0, 0, s.power.cause.code]
      ∃ t, exec (.startUp straps pace .completed) s = .next t ∧
        t.power = { s.power with running := true } ∧ t.identity = { station := straps, cause := s.power.cause } ∧
        t.time = { milliseconds := 0, seconds := 0, storeWaits := false } ∧ t.provisioning.serial = s.provisioning.serial ∧
        t.provisioning.provisioningKey = s.provisioning.provisioningKey ∧
        (∀ a, a ≠ 0 → t.assoc a = State.reset.assoc a) ∧ t.flow = State.reset.flow ∧ t.monitors = State.reset.monitors ∧
        t.management = State.reset.management ∧ t.receiver = State.reset.receiver ∧
        t.stationCounters = State.reset.stationCounters ∧ t.access = { State.reset.access with pace := pace } ∧
        t.shop = { State.reset.shop with macReady := s.shop.macReady } ∧
        t.engine.outbound = [] ∧ t.engine.inbound = [] ∧ t.engine.unwrap = [] ∧ t.engine.lastServed = .outbound ∧
        t.reports = { State.reset.reports with
          records :=
            [{ number := 1, kind := .restart, severity := 2, source := .absent, firstTime := 0, lastTime := 0
               occurrences := 1, value := some (s.power.cause.code.zeroExtend 32), state := .inFlight
               ackDeadline := some 2000, resendCount := 0 }]
          nextNumber := 2
          pacingDeadline := some 100 } ∧
        (s.provisioning.epoch.toNat < 65534 →
          t.provisioning.epoch = s.provisioning.epoch + 1 ∧
          (let half (n : Byte) : Block :=
             Config.permutation s.provisioning.provisioningKey
               (s.provisioning.serial ++ (s.provisioning.epoch + 1) ++ n ++ (0 : BitVec 56))
           let key : Key := half 0 ++ half 1
           t.assoc 0 =
              { State.reset.assoc 0 with
                state := .live
                inFlight := 1
                bankA :=
                  { installedBank .active (s.provisioning.epoch + 1) key with
                    wear := 6, nextSequence := 2, inUse := 1 } } ∧
            t.engine.current = some (.outbound 0 .bankA .control
              (sealFrame key straps 0 (s.provisioning.epoch + 1) 1 false report)) ∧
            t.sendQueue =
              { State.reset.sendQueue with reserved := [{ place := .control, restartMark := false }] })) ∧
        (65534 ≤ s.provisioning.epoch.toNat →
          t.provisioning = s.provisioning ∧ t.engine.current = none ∧ t.sendQueue = State.reset.sendQueue ∧
            t.assoc 0 =
              { State.reset.assoc 0 with
                state := .pending
                bankA := emptyBank
                bankB := emptyBank
                counters := (State.reset.assoc 0).counters.set AssocCounter.stateDrop.index 1 })) ∧
  (∀ (s : State) (straps : BitVec 3) (pace : Pace) (c : ResetCondition), s.power.running = false →
      s.power.anyPresent = false →
      ∃ t u, exec (.startUp straps pace (.abandonedBeforeWrite c)) s = .next t ∧
        exec (.startUp straps pace (.abandonedAfterWrite c)) s = .next u ∧
        t.provisioning = s.provisioning ∧
        (s.provisioning.epoch.toNat < 65534 →
          u.provisioning = { s.provisioning with epoch := s.provisioning.epoch + 1 }) ∧
        (65534 ≤ s.provisioning.epoch.toNat → u.provisioning = s.provisioning) ∧
        u = { t with provisioning := u.provisioning } ∧ t.power.running = false ∧ t.power.isPresent c = true ∧
        t.identity = s.identity ∧ t.assocs = State.reset.assocs)

/-! ## Time and the monitors -/

/-- R16, R21, R113, R114, R171: a Time Base second: the key age of every ACTIVE bank and QUIET of every association
advance and saturate, nothing else of a bank changes; every association's renew-request timer runs after it exactly when
the association is renewal-due, and each that became due sends one RENEW_REQUEST while there is control room. That the
associations are evaluated in number order is the model's choice: log entry 7. The seconds count increases when no deadline
lies before the second (R172; log entry 6). Where an expiry of that second came first it brought the increase, and the
Association Store's part alone is left: that the model holds it so is log entry 35. -/
def Obligations.SecondAgesTheKeysAndEvaluates : Prop :=
  ∀ s : State, s.Busy → s.time.storeWaits = true ∨ s.MayTurn →
    let u : State :=
      { (if s.time.storeWaits = true then s else s.atSecond) with
        time := { (if s.time.storeWaits = true then s else s.atSecond).time with storeWaits := false } }
    let aged (k : Bank) : Bank := if k.state = .active then { k with keyAge := satInc k.keyAge } else k
    let later (r : Assoc) : Assoc := { r with bankA := aged r.bankA, bankB := aged r.bankB, quiet := satInc r.quiet }
    let sends (a : AssocId) : List OutItem :=
      match (later (s.assoc a)).activeBank with
      | none => []
      | some b =>
        if (later (s.assoc a)).isDue = true ∧ (s.assoc a).renewDeadline = none then
          [{ assoc := 0, restartMark := false, setsMark := false
             plaintext := renewRequestOctets a (later (s.assoc a)) ((later (s.assoc a)).bank b) }]
        else []
    exec .timeBaseSecond s = .next
      { u with
        assocs := Vector.ofFn (fun a : AssocId =>
          { later (s.assoc a) with
            renewDeadline :=
              if (later (s.assoc a)).isDue then
                (s.assoc a).renewDeadline.or
                  (some (u.time.seconds.toNat + (s.assoc a).policy.renewInterval.toNat))
              else none })
        engine :=
          { s.engine with
            outbound := s.engine.outbound ++
              if s.sendQueue.taken < 32 then
                ((List.finRange 32).flatMap sends).take (16 - s.engine.outbound.length)
              else [] } }

/-- R15, R110: when a DRAINING bank's deadline is reached the bank becomes EMPTY, or RETIRING with items bound to it.
R114: when the renew-request timer of a due association expires, a further RENEW_REQUEST goes out while there is control
room, and the timer starts again with the interval as it stands; one that is no longer due stops. R132: an INHIBITED monitor
leaves it when the seconds count reaches its startup inhibit, into CLEAR or, of sense FALL, into ARMING, and its first
period starts. An expiry that is the first event of its second brings the increase of the count, and the Association Store
takes the second after it (R172; log entry 35). Before its deadline can come a drain or an inhibit is unchanged: that an
expiry command that comes too early leaves the state as it is, is the model's choice (log entries 6 and 9). -/
def Obligations.SecondsTimersExpire : Prop :=
  (∀ (s : State) (a : AssocId) (b : BankId) (t : Nat), s.power.running = true → (s.bank a b).state = .draining →
      (s.bank a b).drainDeadline = some t →
      let store (k : Bank) : State := { s.comesToSecond t with assocs := s.assocs.set a ((s.assoc a).setBank b k) }
      (s.UnobstructedSecond t → (s.bank a b).inUse = 0 →
        exec (.drainDeadlineExpiry a b) s = .next (store emptyBank)) ∧
      (s.UnobstructedSecond t → (s.bank a b).inUse ≠ 0 →
        exec (.drainDeadlineExpiry a b) s = .next
          (store { s.bank a b with state := .retiring, drainDeadline := none })) ∧
      (¬s.UnobstructedSecond t → exec (.drainDeadlineExpiry a b) s = .next s)) ∧
  (∀ (s : State) (a : AssocId) (t : Nat), s.Busy → (s.assoc a).renewDeadline = some t → s.UnobstructedSecond t →
      let r := s.assoc a
      let u := s.comesToSecond t
      let store (d : Option Nat) : State := { u with assocs := s.assocs.set a { r with renewDeadline := d } }
      let next := some (u.time.seconds.toNat + r.policy.renewInterval.toNat)
      (r.isDue = false → exec (.renewRequestTimerExpiry a) s = .next (store none)) ∧
      (r.isDue = true → 16 ≤ s.engine.outbound.length ∨ 32 ≤ s.sendQueue.taken →
        exec (.renewRequestTimerExpiry a) s = .next (store next)) ∧
      (∀ b, r.isDue = true → r.activeBank = some b → s.engine.outbound.length < 16 → s.sendQueue.taken < 32 →
        exec (.renewRequestTimerExpiry a) s = .next
          { store next with
            engine :=
              { s.engine with
                outbound := s.engine.outbound ++
                  [{ assoc := 0, restartMark := false, setsMark := false
                     plaintext :=
                      [0x61, 0, 0, 20, BitVec.ofNat 8 a.val, r.state.code, reasonsOctet r.dueReasons, 0] ++
                        word 2 (r.bank b).generation ++ [0, 0] ++ word 4 (r.bank b).wear ++
                        word 4 (r.bank b).nextSequence ++ word 4 (r.bank b).keyAge }] } })) ∧
  (∀ (s : State) (m : MonitorId), s.power.running = true → (s.monitor m).state = .inhibited →
      let r := s.monitor m
      let t := r.config.startupInhibit.toNat
      let u := s.comesToSecond t
      (s.UnobstructedSecond t →
        exec (.startupInhibitExpiry m) s = .next
          { u with
            monitors := s.monitors.set m
              { r with
                state := if r.config.sense = .rise then .clear else .arming
                nextSample := some (u.time.seconds.toNat + r.config.period.toNat) } }) ∧
      (¬s.UnobstructedSecond t → exec (.startupInhibitExpiry m) s = .next s))

/-- R125 to R127, R133, R134, R138: a sample that asks nothing of another block: the first one of a mode that needs a
baseline, and the comparing samples that move a monitor between ARMING, CLEAR and PENDING or set a latched monitor's
condition-gone flag. R124: the value of each source. R126, R128: the measured value of each mode. R129: the set and clear
conditions of each sense. R124: the sample may come before the Association Store takes the same second, and then reads QUIET
before its advance, or after it; how the model holds the second between the two is log entry 35. -/
def Obligations.SampleMovesTheMonitor : Prop :=
  (∀ (k : MonitorConfig) (c d : W32),
    (k.mode = .level → k.measure c d = c) ∧ (k.mode = .delta → k.measure c d = d) ∧
    (k.mode = .rate → (k.measure c d).toNat = min (d.toNat * 60 / k.period.toNat) 4294967295) ∧
    (k.sense = .rise →
      (k.setHolds c = true ↔ k.setLevel.toNat ≤ c.toNat) ∧ (k.clearHolds c = true ↔ c.toNat ≤ k.clearLevel.toNat)) ∧
    (k.sense = .fall →
      (k.setHolds c = true ↔ c.toNat ≤ k.setLevel.toNat) ∧ (k.clearHolds c = true ↔ k.clearLevel.toNat ≤ c.toNat))) ∧
  (∀ (s : State) (k : MonitorConfig),
    (∀ x, k.source = .station x → s.sourceValue k = s.stationCounters[x.index]) ∧
    (∀ a : AssocId, k.sourceAssoc.toNat = a.val →
      (∀ x, k.source = .association (.counter x) → s.sourceValue k = (s.assoc a).counters[x.index]) ∧
      (k.source = .association .quiet → (s.sourceValue k).toNat = (s.assoc a).quiet.toNat) ∧
      (k.source = .association .wearPct →
        (∀ b, (s.assoc a).activeBank = some b → (s.bank a b).wear.toNat ≤ (s.assoc a).policy.hardLimit.toNat →
          (s.sourceValue k).toNat = (s.bank a b).wear.toNat * 100 / (s.assoc a).policy.hardLimit.toNat) ∧
        ((s.assoc a).activeBank = none → s.sourceValue k = 0)))) ∧
  ∀ (s : State) (m : MonitorId) (t : Nat), s.Busy → (s.monitor m).nextSample = some t → s.UnobstructedSecond t →
    let u := s.comesToSecond t
    let r := s.monitor m
    let c := s.sourceValue r.config
    let d := if r.previous.toNat ≤ c.toNat then c - r.previous else c
    let v := r.config.measure c d
    let based : Monitor :=
      { r with previous := c, baseline := true, nextSample := some (u.time.seconds.toNat + r.config.period.toNat) }
    let compared : Monitor := { based with lastMeasured := v }
    let count := if r.state = .pending then r.persistenceCount else 0
    let moves (r' : Monitor) : Prop :=
      exec (.monitorSample m) s = .next { u with monitors := s.monitors.set m r' }
    (r.state = .arming ∨ r.state = .clear ∨ r.state = .pending ∨ r.state = .fired →
      (r.baseline = false → r.config.mode ≠ .level → moves based) ∧
      (r.baseline = true ∨ r.config.mode = .level →
        (r.state = .arming → r.config.setLevel.toNat < v.toNat →
          moves { compared with state := .clear, persistenceCount := 0 }) ∧
        (r.state = .arming → v.toNat ≤ r.config.setLevel.toNat → moves compared) ∧
        (r.state = .clear ∨ r.state = .pending → r.config.setHolds v = false →
          moves { compared with state := .clear, persistenceCount := 0 }) ∧
        (r.state = .clear ∨ r.state = .pending → r.config.setHolds v = true →
          count + 1 < r.config.persistence.toNat →
          moves { compared with state := .pending, persistenceCount := count + 1 }) ∧
        (r.state = .fired → r.config.latch = .none → r.config.clearHolds v = false → moves compared) ∧
        (r.state = .fired → r.config.latch = .hold → r.config.clearHolds v = true →
          moves { compared with conditionGone := true }) ∧
        (r.state = .fired → r.config.latch = .hold → r.config.clearHolds v = false → r.config.setHolds v = true →
          moves { compared with conditionGone := false }) ∧
        (r.state = .fired → r.config.latch = .hold → r.config.clearHolds v = false → r.config.setHolds v = false →
          moves compared)))

/-- R134 to R137: the comparing sample that completes the persistence fires the monitor: its report, and its action, NOTE,
SUSPEND (association 0 stays LIVE) or RENEW, which sets the target's monitor-renewal flag, unless it is VACANT, and evaluates
renewal-due; with RENEW the order of report and action is a free choice (log entry 3). The
comparing sample on which the clear condition holds ends FIRED without a latch, with a report of severity 1. The sample
reads its source before or after the Association Store takes the same second (R124; log entry 35). -/
def Obligations.SampleFiresAndClears : Prop :=
  ∀ (s : State) (m : MonitorId) (t : Nat), s.Busy → (s.monitor m).nextSample = some t → s.UnobstructedSecond t →
    let u := s.comesToSecond t
    let r := s.monitor m
    let c := s.sourceValue r.config
    let d := if r.previous.toNat ≤ c.toNat then c - r.previous else c
    let v := r.config.measure c d
    let compared : Monitor :=
      { r with
        previous := c, baseline := true, nextSample := some (u.time.seconds.toNat + r.config.period.toNat)
        lastMeasured := v }
    let count := if r.state = .pending then r.persistenceCount else 0
    let a := r.config.target
    let report (k : ReportKind) (severity : Byte) : Report :=
      { kind := k, severity := severity, source := .monitor m, value := some v }
    let renewal (w : State) : State :=
      if (w.assoc a).state = .vacant then w.evaluateDue a
      else ({ w with assocs := w.assocs.set a { w.assoc a with monitorRenewal := true } } : State).evaluateDue a
    r.baseline = true ∨ r.config.mode = .level →
    (r.state = .clear ∨ r.state = .pending → r.config.setHolds v = true → r.config.persistence.toNat ≤ count + 1 →
      let fired : State :=
        { u with
          free := s.free + 1
          monitors := s.monitors.set m { compared with state := .fired, persistenceCount := count + 1 } }
      (r.config.action = .note ∨ (r.config.action = .suspend ∧ (a = 0 ∨ (s.assoc a).state ≠ .live)) →
        exec (.monitorSample m) s = .next (fired.handReport (report .monitorFired r.config.severity))) ∧
      (r.config.action = .suspend → a ≠ 0 → (s.assoc a).state = .live →
        exec (.monitorSample m) s = .next
          { fired.handReport (report .monitorFired r.config.severity) with
            assocs := s.assocs.set a { s.assoc a with state := .suspended } }) ∧
      (r.config.action = .renew →
        exec (.monitorSample m) s = .next
          (if Config.firstOrder s.free then
            renewal (fired.handReport (report .monitorFired r.config.severity))
           else (renewal fired).handReport (report .monitorFired r.config.severity)))) ∧
    (r.state = .fired → r.config.latch = .none → r.config.clearHolds v = true →
      exec (.monitorSample m) s = .next
        (({ u with monitors := s.monitors.set m { compared with state := .clear, persistenceCount := 0 } } : State
          ).handReport (report .monitorCleared 1)))

/-! ## The Fault Report Queue -/

/-- R144 to R146: a report handed to the queue: folded into an UNSENT record of its kind and source; or a new record at the
young end; or, at a full queue, a new record in the place of the oldest UNSENT record of the lowest severity when that is
below the report's; or dropped. A drop or eviction counts REPORT_DROP and the dropped count. R147: each is followed by a send
attempt. That a dropped report is, too, is the model's reading: log entry 23; that a drop or an eviction is counted before
the attempt is its choice: log entry 36. -/
def Obligations.ReportIsFoldedCreatedOrDropped : Prop :=
  ∀ (s : State) (p : Report),
    let q := s.reports
    let now := s.time.seconds
    let same (x : ReportRecord) : Prop := x.state = .unsent ∧ x.kind = p.kind ∧ x.source = p.source
    (∀ (l₁ l₂ : List ReportRecord) (x : ReportRecord), q.records = l₁ ++ x :: l₂ → same x → (∀ y ∈ l₁, ¬same y) →
      s.handReport p =
        ({ s with
            reports :=
              { q with
                records := l₁ ++
                  { x with
                    occurrences := if x.occurrences = 65535 then x.occurrences else x.occurrences + 1
                    lastTime := now
                    value := p.value.or x.value
                    severity := if x.severity.toNat < p.severity.toNat then p.severity else x.severity } :: l₂ } }
          : State).sendAttempt) ∧
    ((∀ x ∈ q.records, ¬same x) →
      (q.records.length < 24 → s.handReport p = ({ s with reports := q.create p now } : State).sendAttempt) ∧
      (24 ≤ q.records.length →
        let counted : State :=
          { s with
            stationCounters := (s.countStation .reportDrop).stationCounters
            reports := { q with dropped := if q.dropped = 255 then 255 else q.dropped + 1 } }
        ((∀ x ∈ q.records, x.state = .unsent → p.severity.toNat ≤ x.severity.toNat) →
          s.handReport p = counted.sendAttempt) ∧
        (∀ (l₁ l₂ : List ReportRecord) (x : ReportRecord), q.records = l₁ ++ x :: l₂ → x.state = .unsent →
          x.severity.toNat < p.severity.toNat →
          (∀ y ∈ q.records, y.state = .unsent → x.severity.toNat ≤ y.severity.toNat) →
          (∀ y ∈ l₁, y.state = .unsent → x.severity.toNat < y.severity.toNat) →
          s.handReport p =
            ({ counted with
                reports := ({ counted.reports with records := l₁ ++ l₂ } : ReportQueue).create p now }
              : State).sendAttempt)))

/-- R147 to R149: a send attempt. With nothing UNSENT, with 4 records IN_FLIGHT or while pacing runs it offers nothing.
Without control room it starts the retry timer. Otherwise it offers the oldest of the highest severity: the record's
message, its ack deadline, the dropped count cleared, the pacing started; with pacing 0 the next attempt follows. That the
retry timer stops where another condition fails is the model's reading: log entry 15. -/
def Obligations.SendAttemptOffersTheOldestOfTheHighest : Prop :=
  ∀ s : State,
    let q := s.reports
    let ms := s.time.milliseconds
    let retry (d : Option Nat) : State := { s with reports := { q with retryDeadline := d } }
    let room := s.engine.outbound.length < 16 ∧ s.sendQueue.taken < 32
    ((∀ x ∈ q.records, x.state ≠ .unsent) ∨ 4 ≤ inFlightCount q.records ∨ q.pacingDeadline.isSome = true →
      s.sendAttempt = retry none) ∧
    ((∃ x ∈ q.records, x.state = .unsent) → inFlightCount q.records < 4 → q.pacingDeadline = none →
      (¬room → s.sendAttempt = retry (q.retryDeadline.or (some (ms + 10)))) ∧
      (room → ∀ (l₁ l₂ : List ReportRecord) (x : ReportRecord), q.records = l₁ ++ x :: l₂ → x.state = .unsent →
        (∀ y ∈ q.records, y.state = .unsent → y.severity.toNat ≤ x.severity.toNat) →
        (∀ y ∈ l₁, y.state = .unsent → y.severity.toNat < x.severity.toNat) →
        let message : List Byte :=
          [0x60, 0, 0, 24] ++ word 2 x.number ++
            [x.kind.code, x.severity, x.source.code, x.resendCount, q.dropped, 0] ++ word 2 x.occurrences ++ [0, 0] ++
            word 4 x.firstTime ++ word 4 x.lastTime ++ word 4 (x.value.getD 0)
        let offered (pacing : Option Nat) : State :=
          { s with
            engine :=
              { s.engine with
                outbound := s.engine.outbound ++
                  [{ assoc := 0, plaintext := message, restartMark := false, setsMark := false }] }
            reports :=
              { q with
                records := l₁ ++
                  { x with
                    state := .inFlight
                    ackDeadline := some (ms + 100 * s.management.settings.ackTimeout.toNat) } :: l₂
                dropped := 0
                pacingDeadline := pacing
                retryDeadline := none } }
        (s.management.settings.reportPacing ≠ 0 →
          s.sendAttempt = offered (some (ms + 10 * s.management.settings.reportPacing.toNat))) ∧
        (s.management.settings.reportPacing = 0 → s.sendAttempt = (offered none).sendAttempt)))

/-- R147, R149, R151: the expiries of the queue's timers. An IN_FLIGHT record whose ack deadline is reached returns to
UNSENT in its place with one resend more, or merges with the UNSENT record of its kind and source at the older place; then,
as after a pacing or retry expiry, a send attempt follows. The millisecond count's coming to the deadline with the expiry
is log entry 6. -/
def Obligations.ReportTimersExpire : Prop :=
  ∀ (s : State) (t : Nat), s.Busy → s.Unobstructed t →
    let q := s.reports
    let afterExpiry (q' : ReportQueue) : State :=
      ({ s.comesTo t with reports := q' } : State).sendAttempt
    (q.pacingDeadline = some t → exec .pacingTimerExpiry s = .next (afterExpiry { q with pacingDeadline := none })) ∧
    (q.retryDeadline = some t → exec .retryTimerExpiry s = .next (afterExpiry { q with retryDeadline := none })) ∧
    (q.Lawful → ∀ (l₁ l₂ : List ReportRecord) (x : ReportRecord), q.records = l₁ ++ x :: l₂ → x.state = .inFlight →
      x.ackDeadline = some t →
      let resends := if x.resendCount = 255 then 255 else x.resendCount + 1
      ((∀ y ∈ q.records, ¬(y.state = .unsent ∧ y.kind = x.kind ∧ y.source = x.source)) →
        exec (.ackDeadlineExpiry x.number) s = .next (afterExpiry
          { q with
            records := l₁ ++ { x with state := .unsent, ackDeadline := none, resendCount := resends } :: l₂ })) ∧
      (∀ u : ReportRecord, u.state = .unsent → u.kind = x.kind → u.source = x.source →
        let merged : ReportRecord :=
          { u with
            firstTime := if x.firstTime.toNat < u.firstTime.toNat then x.firstTime else u.firstTime
            occurrences :=
              if u.occurrences.toNat + x.occurrences.toNat ≤ 65535 then u.occurrences + x.occurrences else 65535
            severity := if u.severity.toNat < x.severity.toNat then x.severity else u.severity
            resendCount := if u.resendCount.toNat < resends.toNat then resends else u.resendCount }
        (∀ m₁ m₂ : List ReportRecord, l₁ = m₁ ++ u :: m₂ →
          exec (.ackDeadlineExpiry x.number) s = .next (afterExpiry { q with records := m₁ ++ merged :: (m₂ ++ l₂) })) ∧
        (∀ m₁ m₂ : List ReportRecord, l₂ = m₁ ++ u :: m₂ →
          exec (.ackDeadlineExpiry x.number) s = .next (afterExpiry { q with records := l₁ ++ merged :: (m₁ ++ m₂) }))))
end

