-- ==== Sys2Proof/Laws/State.lean ====
section
/-! SUPPORT. One lemma for each field of the state and each update of it, true by definition: no later proof unfolds a
record update. -/

namespace Sys2Proof.Machine

variable (s : State)

/-! ## setAssoc -/

@[simp] theorem State.setAssoc_pending (a : AssocId) (r : Assoc) : (s.setAssoc a r).pending = s.pending := rfl
@[simp] theorem State.setAssoc_free (a : AssocId) (r : Assoc) : (s.setAssoc a r).free = s.free := rfl
@[simp] theorem State.setAssoc_power (a : AssocId) (r : Assoc) : (s.setAssoc a r).power = s.power := rfl
@[simp] theorem State.setAssoc_time (a : AssocId) (r : Assoc) : (s.setAssoc a r).time = s.time := rfl
@[simp] theorem State.setAssoc_provisioning (a : AssocId) (r : Assoc) :
    (s.setAssoc a r).provisioning = s.provisioning := rfl
@[simp] theorem State.setAssoc_identity (a : AssocId) (r : Assoc) : (s.setAssoc a r).identity = s.identity := rfl
@[simp] theorem State.setAssoc_assocs (a : AssocId) (r : Assoc) : (s.setAssoc a r).assocs = s.assocs.set a r := rfl
@[simp] theorem State.setAssoc_stationCounters (a : AssocId) (r : Assoc) :
    (s.setAssoc a r).stationCounters = s.stationCounters := rfl
@[simp] theorem State.setAssoc_shop (a : AssocId) (r : Assoc) : (s.setAssoc a r).shop = s.shop := rfl
@[simp] theorem State.setAssoc_flow (a : AssocId) (r : Assoc) : (s.setAssoc a r).flow = s.flow := rfl
@[simp] theorem State.setAssoc_engine (a : AssocId) (r : Assoc) : (s.setAssoc a r).engine = s.engine := rfl
@[simp] theorem State.setAssoc_sendQueue (a : AssocId) (r : Assoc) : (s.setAssoc a r).sendQueue = s.sendQueue := rfl
@[simp] theorem State.setAssoc_access (a : AssocId) (r : Assoc) : (s.setAssoc a r).access = s.access := rfl
@[simp] theorem State.setAssoc_receiver (a : AssocId) (r : Assoc) : (s.setAssoc a r).receiver = s.receiver := rfl
@[simp] theorem State.setAssoc_monitors (a : AssocId) (r : Assoc) : (s.setAssoc a r).monitors = s.monitors := rfl
@[simp] theorem State.setAssoc_reports (a : AssocId) (r : Assoc) : (s.setAssoc a r).reports = s.reports := rfl
@[simp] theorem State.setAssoc_management (a : AssocId) (r : Assoc) :
    (s.setAssoc a r).management = s.management := rfl

/-! ## modAssoc -/

@[simp] theorem State.modAssoc_pending (a : AssocId) (f : Assoc → Assoc) : (s.modAssoc a f).pending = s.pending := rfl
@[simp] theorem State.modAssoc_free (a : AssocId) (f : Assoc → Assoc) : (s.modAssoc a f).free = s.free := rfl
@[simp] theorem State.modAssoc_power (a : AssocId) (f : Assoc → Assoc) : (s.modAssoc a f).power = s.power := rfl
@[simp] theorem State.modAssoc_time (a : AssocId) (f : Assoc → Assoc) : (s.modAssoc a f).time = s.time := rfl
@[simp] theorem State.modAssoc_provisioning (a : AssocId) (f : Assoc → Assoc) :
    (s.modAssoc a f).provisioning = s.provisioning := rfl
@[simp] theorem State.modAssoc_identity (a : AssocId) (f : Assoc → Assoc) :
    (s.modAssoc a f).identity = s.identity := rfl
@[simp] theorem State.modAssoc_assocs (a : AssocId) (f : Assoc → Assoc) :
    (s.modAssoc a f).assocs = s.assocs.set a (f (s.assoc a)) := rfl
@[simp] theorem State.modAssoc_stationCounters (a : AssocId) (f : Assoc → Assoc) :
    (s.modAssoc a f).stationCounters = s.stationCounters := rfl
@[simp] theorem State.modAssoc_shop (a : AssocId) (f : Assoc → Assoc) : (s.modAssoc a f).shop = s.shop := rfl
@[simp] theorem State.modAssoc_flow (a : AssocId) (f : Assoc → Assoc) : (s.modAssoc a f).flow = s.flow := rfl
@[simp] theorem State.modAssoc_engine (a : AssocId) (f : Assoc → Assoc) : (s.modAssoc a f).engine = s.engine := rfl
@[simp] theorem State.modAssoc_sendQueue (a : AssocId) (f : Assoc → Assoc) :
    (s.modAssoc a f).sendQueue = s.sendQueue := rfl
@[simp] theorem State.modAssoc_access (a : AssocId) (f : Assoc → Assoc) : (s.modAssoc a f).access = s.access := rfl
@[simp] theorem State.modAssoc_receiver (a : AssocId) (f : Assoc → Assoc) :
    (s.modAssoc a f).receiver = s.receiver := rfl
@[simp] theorem State.modAssoc_monitors (a : AssocId) (f : Assoc → Assoc) :
    (s.modAssoc a f).monitors = s.monitors := rfl
@[simp] theorem State.modAssoc_reports (a : AssocId) (f : Assoc → Assoc) : (s.modAssoc a f).reports = s.reports := rfl
@[simp] theorem State.modAssoc_management (a : AssocId) (f : Assoc → Assoc) :
    (s.modAssoc a f).management = s.management := rfl

/-! ## modBank -/

@[simp] theorem State.modBank_pending (a : AssocId) (b : BankId) (f : Bank → Bank) :
    (s.modBank a b f).pending = s.pending := rfl
@[simp] theorem State.modBank_free (a : AssocId) (b : BankId) (f : Bank → Bank) :
    (s.modBank a b f).free = s.free := rfl
@[simp] theorem State.modBank_power (a : AssocId) (b : BankId) (f : Bank → Bank) :
    (s.modBank a b f).power = s.power := rfl
@[simp] theorem State.modBank_time (a : AssocId) (b : BankId) (f : Bank → Bank) :
    (s.modBank a b f).time = s.time := rfl
@[simp] theorem State.modBank_provisioning (a : AssocId) (b : BankId) (f : Bank → Bank) :
    (s.modBank a b f).provisioning = s.provisioning := rfl
@[simp] theorem State.modBank_identity (a : AssocId) (b : BankId) (f : Bank → Bank) :
    (s.modBank a b f).identity = s.identity := rfl
@[simp] theorem State.modBank_stationCounters (a : AssocId) (b : BankId) (f : Bank → Bank) :
    (s.modBank a b f).stationCounters = s.stationCounters := rfl
@[simp] theorem State.modBank_shop (a : AssocId) (b : BankId) (f : Bank → Bank) :
    (s.modBank a b f).shop = s.shop := rfl
@[simp] theorem State.modBank_flow (a : AssocId) (b : BankId) (f : Bank → Bank) :
    (s.modBank a b f).flow = s.flow := rfl
@[simp] theorem State.modBank_engine (a : AssocId) (b : BankId) (f : Bank → Bank) :
    (s.modBank a b f).engine = s.engine := rfl
@[simp] theorem State.modBank_sendQueue (a : AssocId) (b : BankId) (f : Bank → Bank) :
    (s.modBank a b f).sendQueue = s.sendQueue := rfl
@[simp] theorem State.modBank_access (a : AssocId) (b : BankId) (f : Bank → Bank) :
    (s.modBank a b f).access = s.access := rfl
@[simp] theorem State.modBank_receiver (a : AssocId) (b : BankId) (f : Bank → Bank) :
    (s.modBank a b f).receiver = s.receiver := rfl
@[simp] theorem State.modBank_monitors (a : AssocId) (b : BankId) (f : Bank → Bank) :
    (s.modBank a b f).monitors = s.monitors := rfl
@[simp] theorem State.modBank_reports (a : AssocId) (b : BankId) (f : Bank → Bank) :
    (s.modBank a b f).reports = s.reports := rfl
@[simp] theorem State.modBank_management (a : AssocId) (b : BankId) (f : Bank → Bank) :
    (s.modBank a b f).management = s.management := rfl

/-! ## countAssoc -/

@[simp] theorem State.countAssoc_pending (a : AssocId) (c : AssocCounter) :
    (s.countAssoc a c).pending = s.pending := rfl
@[simp] theorem State.countAssoc_free (a : AssocId) (c : AssocCounter) : (s.countAssoc a c).free = s.free := rfl
@[simp] theorem State.countAssoc_power (a : AssocId) (c : AssocCounter) : (s.countAssoc a c).power = s.power := rfl
@[simp] theorem State.countAssoc_time (a : AssocId) (c : AssocCounter) : (s.countAssoc a c).time = s.time := rfl
@[simp] theorem State.countAssoc_provisioning (a : AssocId) (c : AssocCounter) :
    (s.countAssoc a c).provisioning = s.provisioning := rfl
@[simp] theorem State.countAssoc_identity (a : AssocId) (c : AssocCounter) :
    (s.countAssoc a c).identity = s.identity := rfl
@[simp] theorem State.countAssoc_stationCounters (a : AssocId) (c : AssocCounter) :
    (s.countAssoc a c).stationCounters = s.stationCounters := rfl
@[simp] theorem State.countAssoc_shop (a : AssocId) (c : AssocCounter) : (s.countAssoc a c).shop = s.shop := rfl
@[simp] theorem State.countAssoc_flow (a : AssocId) (c : AssocCounter) : (s.countAssoc a c).flow = s.flow := rfl
@[simp] theorem State.countAssoc_engine (a : AssocId) (c : AssocCounter) : (s.countAssoc a c).engine = s.engine := rfl
@[simp] theorem State.countAssoc_sendQueue (a : AssocId) (c : AssocCounter) :
    (s.countAssoc a c).sendQueue = s.sendQueue := rfl
@[simp] theorem State.countAssoc_access (a : AssocId) (c : AssocCounter) : (s.countAssoc a c).access = s.access := rfl
@[simp] theorem State.countAssoc_receiver (a : AssocId) (c : AssocCounter) :
    (s.countAssoc a c).receiver = s.receiver := rfl
@[simp] theorem State.countAssoc_monitors (a : AssocId) (c : AssocCounter) :
    (s.countAssoc a c).monitors = s.monitors := rfl
@[simp] theorem State.countAssoc_reports (a : AssocId) (c : AssocCounter) :
    (s.countAssoc a c).reports = s.reports := rfl
@[simp] theorem State.countAssoc_management (a : AssocId) (c : AssocCounter) :
    (s.countAssoc a c).management = s.management := rfl

/-! ## countStation -/

@[simp] theorem State.countStation_pending (c : StationCounter) : (s.countStation c).pending = s.pending := rfl
@[simp] theorem State.countStation_free (c : StationCounter) : (s.countStation c).free = s.free := rfl
@[simp] theorem State.countStation_power (c : StationCounter) : (s.countStation c).power = s.power := rfl
@[simp] theorem State.countStation_time (c : StationCounter) : (s.countStation c).time = s.time := rfl
@[simp] theorem State.countStation_provisioning (c : StationCounter) :
    (s.countStation c).provisioning = s.provisioning := rfl
@[simp] theorem State.countStation_identity (c : StationCounter) : (s.countStation c).identity = s.identity := rfl
@[simp] theorem State.countStation_assocs (c : StationCounter) : (s.countStation c).assocs = s.assocs := rfl
@[simp] theorem State.countStation_stationCounters (c : StationCounter) :
    (s.countStation c).stationCounters = s.stationCounters.set c.index (satInc s.stationCounters[c.index]) := rfl
@[simp] theorem State.countStation_shop (c : StationCounter) : (s.countStation c).shop = s.shop := rfl
@[simp] theorem State.countStation_flow (c : StationCounter) : (s.countStation c).flow = s.flow := rfl
@[simp] theorem State.countStation_engine (c : StationCounter) : (s.countStation c).engine = s.engine := rfl
@[simp] theorem State.countStation_sendQueue (c : StationCounter) : (s.countStation c).sendQueue = s.sendQueue := rfl
@[simp] theorem State.countStation_access (c : StationCounter) : (s.countStation c).access = s.access := rfl
@[simp] theorem State.countStation_receiver (c : StationCounter) : (s.countStation c).receiver = s.receiver := rfl
@[simp] theorem State.countStation_monitors (c : StationCounter) : (s.countStation c).monitors = s.monitors := rfl
@[simp] theorem State.countStation_reports (c : StationCounter) : (s.countStation c).reports = s.reports := rfl
@[simp] theorem State.countStation_management (c : StationCounter) :
    (s.countStation c).management = s.management := rfl

/-! ## releaseItem -/

@[simp] theorem State.releaseItem_pending (a : AssocId) (b : BankId) : (s.releaseItem a b).pending = s.pending := rfl
@[simp] theorem State.releaseItem_free (a : AssocId) (b : BankId) : (s.releaseItem a b).free = s.free := rfl
@[simp] theorem State.releaseItem_power (a : AssocId) (b : BankId) : (s.releaseItem a b).power = s.power := rfl
@[simp] theorem State.releaseItem_time (a : AssocId) (b : BankId) : (s.releaseItem a b).time = s.time := rfl
@[simp] theorem State.releaseItem_provisioning (a : AssocId) (b : BankId) :
    (s.releaseItem a b).provisioning = s.provisioning := rfl
@[simp] theorem State.releaseItem_identity (a : AssocId) (b : BankId) :
    (s.releaseItem a b).identity = s.identity := rfl
@[simp] theorem State.releaseItem_stationCounters (a : AssocId) (b : BankId) :
    (s.releaseItem a b).stationCounters = s.stationCounters := rfl
@[simp] theorem State.releaseItem_shop (a : AssocId) (b : BankId) : (s.releaseItem a b).shop = s.shop := rfl
@[simp] theorem State.releaseItem_flow (a : AssocId) (b : BankId) : (s.releaseItem a b).flow = s.flow := rfl
@[simp] theorem State.releaseItem_engine (a : AssocId) (b : BankId) : (s.releaseItem a b).engine = s.engine := rfl
@[simp] theorem State.releaseItem_sendQueue (a : AssocId) (b : BankId) :
    (s.releaseItem a b).sendQueue = s.sendQueue := rfl
@[simp] theorem State.releaseItem_access (a : AssocId) (b : BankId) : (s.releaseItem a b).access = s.access := rfl
@[simp] theorem State.releaseItem_receiver (a : AssocId) (b : BankId) :
    (s.releaseItem a b).receiver = s.receiver := rfl
@[simp] theorem State.releaseItem_monitors (a : AssocId) (b : BankId) :
    (s.releaseItem a b).monitors = s.monitors := rfl
@[simp] theorem State.releaseItem_reports (a : AssocId) (b : BankId) : (s.releaseItem a b).reports = s.reports := rfl
@[simp] theorem State.releaseItem_management (a : AssocId) (b : BankId) :
    (s.releaseItem a b).management = s.management := rfl

/-! ## modEngine -/

@[simp] theorem State.modEngine_pending (f : Engine → Engine) : (s.modEngine f).pending = s.pending := rfl
@[simp] theorem State.modEngine_free (f : Engine → Engine) : (s.modEngine f).free = s.free := rfl
@[simp] theorem State.modEngine_power (f : Engine → Engine) : (s.modEngine f).power = s.power := rfl
@[simp] theorem State.modEngine_time (f : Engine → Engine) : (s.modEngine f).time = s.time := rfl
@[simp] theorem State.modEngine_provisioning (f : Engine → Engine) :
    (s.modEngine f).provisioning = s.provisioning := rfl
@[simp] theorem State.modEngine_identity (f : Engine → Engine) : (s.modEngine f).identity = s.identity := rfl
@[simp] theorem State.modEngine_assocs (f : Engine → Engine) : (s.modEngine f).assocs = s.assocs := rfl
@[simp] theorem State.modEngine_stationCounters (f : Engine → Engine) :
    (s.modEngine f).stationCounters = s.stationCounters := rfl
@[simp] theorem State.modEngine_shop (f : Engine → Engine) : (s.modEngine f).shop = s.shop := rfl
@[simp] theorem State.modEngine_flow (f : Engine → Engine) : (s.modEngine f).flow = s.flow := rfl
@[simp] theorem State.modEngine_engine (f : Engine → Engine) : (s.modEngine f).engine = f s.engine := rfl
@[simp] theorem State.modEngine_sendQueue (f : Engine → Engine) : (s.modEngine f).sendQueue = s.sendQueue := rfl
@[simp] theorem State.modEngine_access (f : Engine → Engine) : (s.modEngine f).access = s.access := rfl
@[simp] theorem State.modEngine_receiver (f : Engine → Engine) : (s.modEngine f).receiver = s.receiver := rfl
@[simp] theorem State.modEngine_monitors (f : Engine → Engine) : (s.modEngine f).monitors = s.monitors := rfl
@[simp] theorem State.modEngine_reports (f : Engine → Engine) : (s.modEngine f).reports = s.reports := rfl
@[simp] theorem State.modEngine_management (f : Engine → Engine) : (s.modEngine f).management = s.management := rfl

/-! ## engineIdle -/

@[simp] theorem State.engineIdle_pending : (s.engineIdle).pending = s.pending := rfl
@[simp] theorem State.engineIdle_free : (s.engineIdle).free = s.free := rfl
@[simp] theorem State.engineIdle_power : (s.engineIdle).power = s.power := rfl
@[simp] theorem State.engineIdle_time : (s.engineIdle).time = s.time := rfl
@[simp] theorem State.engineIdle_provisioning : (s.engineIdle).provisioning = s.provisioning := rfl
@[simp] theorem State.engineIdle_identity : (s.engineIdle).identity = s.identity := rfl
@[simp] theorem State.engineIdle_assocs : (s.engineIdle).assocs = s.assocs := rfl
@[simp] theorem State.engineIdle_stationCounters : (s.engineIdle).stationCounters = s.stationCounters := rfl
@[simp] theorem State.engineIdle_shop : (s.engineIdle).shop = s.shop := rfl
@[simp] theorem State.engineIdle_flow : (s.engineIdle).flow = s.flow := rfl
@[simp] theorem State.engineIdle_sendQueue : (s.engineIdle).sendQueue = s.sendQueue := rfl
@[simp] theorem State.engineIdle_access : (s.engineIdle).access = s.access := rfl
@[simp] theorem State.engineIdle_receiver : (s.engineIdle).receiver = s.receiver := rfl
@[simp] theorem State.engineIdle_monitors : (s.engineIdle).monitors = s.monitors := rfl
@[simp] theorem State.engineIdle_reports : (s.engineIdle).reports = s.reports := rfl
@[simp] theorem State.engineIdle_management : (s.engineIdle).management = s.management := rfl

/-! ## joinOutbound -/

@[simp] theorem State.joinOutbound_pending (i : OutItem) : (s.joinOutbound i).pending = s.pending := rfl
@[simp] theorem State.joinOutbound_free (i : OutItem) : (s.joinOutbound i).free = s.free := rfl
@[simp] theorem State.joinOutbound_power (i : OutItem) : (s.joinOutbound i).power = s.power := rfl
@[simp] theorem State.joinOutbound_time (i : OutItem) : (s.joinOutbound i).time = s.time := rfl
@[simp] theorem State.joinOutbound_provisioning (i : OutItem) :
    (s.joinOutbound i).provisioning = s.provisioning := rfl
@[simp] theorem State.joinOutbound_identity (i : OutItem) : (s.joinOutbound i).identity = s.identity := rfl
@[simp] theorem State.joinOutbound_assocs (i : OutItem) : (s.joinOutbound i).assocs = s.assocs := rfl
@[simp] theorem State.joinOutbound_stationCounters (i : OutItem) :
    (s.joinOutbound i).stationCounters = s.stationCounters := rfl
@[simp] theorem State.joinOutbound_shop (i : OutItem) : (s.joinOutbound i).shop = s.shop := rfl
@[simp] theorem State.joinOutbound_flow (i : OutItem) : (s.joinOutbound i).flow = s.flow := rfl
@[simp] theorem State.joinOutbound_engine (i : OutItem) :
    (s.joinOutbound i).engine = { s.engine with outbound := s.engine.outbound ++ [i] } := rfl
@[simp] theorem State.joinOutbound_sendQueue (i : OutItem) : (s.joinOutbound i).sendQueue = s.sendQueue := rfl
@[simp] theorem State.joinOutbound_access (i : OutItem) : (s.joinOutbound i).access = s.access := rfl
@[simp] theorem State.joinOutbound_receiver (i : OutItem) : (s.joinOutbound i).receiver = s.receiver := rfl
@[simp] theorem State.joinOutbound_monitors (i : OutItem) : (s.joinOutbound i).monitors = s.monitors := rfl
@[simp] theorem State.joinOutbound_reports (i : OutItem) : (s.joinOutbound i).reports = s.reports := rfl
@[simp] theorem State.joinOutbound_management (i : OutItem) : (s.joinOutbound i).management = s.management := rfl

/-! ## joinInbound -/

@[simp] theorem State.joinInbound_pending (i : InItem) : (s.joinInbound i).pending = s.pending := rfl
@[simp] theorem State.joinInbound_free (i : InItem) : (s.joinInbound i).free = s.free := rfl
@[simp] theorem State.joinInbound_power (i : InItem) : (s.joinInbound i).power = s.power := rfl
@[simp] theorem State.joinInbound_time (i : InItem) : (s.joinInbound i).time = s.time := rfl
@[simp] theorem State.joinInbound_provisioning (i : InItem) : (s.joinInbound i).provisioning = s.provisioning := rfl
@[simp] theorem State.joinInbound_identity (i : InItem) : (s.joinInbound i).identity = s.identity := rfl
@[simp] theorem State.joinInbound_assocs (i : InItem) : (s.joinInbound i).assocs = s.assocs := rfl
@[simp] theorem State.joinInbound_stationCounters (i : InItem) :
    (s.joinInbound i).stationCounters = s.stationCounters := rfl
@[simp] theorem State.joinInbound_shop (i : InItem) : (s.joinInbound i).shop = s.shop := rfl
@[simp] theorem State.joinInbound_flow (i : InItem) : (s.joinInbound i).flow = s.flow := rfl
@[simp] theorem State.joinInbound_engine (i : InItem) :
    (s.joinInbound i).engine = { s.engine with inbound := s.engine.inbound ++ [i] } := rfl
@[simp] theorem State.joinInbound_sendQueue (i : InItem) : (s.joinInbound i).sendQueue = s.sendQueue := rfl
@[simp] theorem State.joinInbound_access (i : InItem) : (s.joinInbound i).access = s.access := rfl
@[simp] theorem State.joinInbound_receiver (i : InItem) : (s.joinInbound i).receiver = s.receiver := rfl
@[simp] theorem State.joinInbound_monitors (i : InItem) : (s.joinInbound i).monitors = s.monitors := rfl
@[simp] theorem State.joinInbound_reports (i : InItem) : (s.joinInbound i).reports = s.reports := rfl
@[simp] theorem State.joinInbound_management (i : InItem) : (s.joinInbound i).management = s.management := rfl

/-! ## joinUnwrap -/

@[simp] theorem State.joinUnwrap_pending (i : UnwrapItem) : (s.joinUnwrap i).pending = s.pending := rfl
@[simp] theorem State.joinUnwrap_free (i : UnwrapItem) : (s.joinUnwrap i).free = s.free := rfl
@[simp] theorem State.joinUnwrap_power (i : UnwrapItem) : (s.joinUnwrap i).power = s.power := rfl
@[simp] theorem State.joinUnwrap_time (i : UnwrapItem) : (s.joinUnwrap i).time = s.time := rfl
@[simp] theorem State.joinUnwrap_provisioning (i : UnwrapItem) : (s.joinUnwrap i).provisioning = s.provisioning := rfl
@[simp] theorem State.joinUnwrap_identity (i : UnwrapItem) : (s.joinUnwrap i).identity = s.identity := rfl
@[simp] theorem State.joinUnwrap_assocs (i : UnwrapItem) : (s.joinUnwrap i).assocs = s.assocs := rfl
@[simp] theorem State.joinUnwrap_stationCounters (i : UnwrapItem) :
    (s.joinUnwrap i).stationCounters = s.stationCounters := rfl
@[simp] theorem State.joinUnwrap_shop (i : UnwrapItem) : (s.joinUnwrap i).shop = s.shop := rfl
@[simp] theorem State.joinUnwrap_flow (i : UnwrapItem) : (s.joinUnwrap i).flow = s.flow := rfl
@[simp] theorem State.joinUnwrap_engine (i : UnwrapItem) :
    (s.joinUnwrap i).engine = { s.engine with unwrap := s.engine.unwrap ++ [i] } := rfl
@[simp] theorem State.joinUnwrap_sendQueue (i : UnwrapItem) : (s.joinUnwrap i).sendQueue = s.sendQueue := rfl
@[simp] theorem State.joinUnwrap_access (i : UnwrapItem) : (s.joinUnwrap i).access = s.access := rfl
@[simp] theorem State.joinUnwrap_receiver (i : UnwrapItem) : (s.joinUnwrap i).receiver = s.receiver := rfl
@[simp] theorem State.joinUnwrap_monitors (i : UnwrapItem) : (s.joinUnwrap i).monitors = s.monitors := rfl
@[simp] theorem State.joinUnwrap_reports (i : UnwrapItem) : (s.joinUnwrap i).reports = s.reports := rfl
@[simp] theorem State.joinUnwrap_management (i : UnwrapItem) : (s.joinUnwrap i).management = s.management := rfl

/-! ## modSendQueue -/

@[simp] theorem State.modSendQueue_pending (f : SendQueue → SendQueue) : (s.modSendQueue f).pending = s.pending := rfl
@[simp] theorem State.modSendQueue_free (f : SendQueue → SendQueue) : (s.modSendQueue f).free = s.free := rfl
@[simp] theorem State.modSendQueue_power (f : SendQueue → SendQueue) : (s.modSendQueue f).power = s.power := rfl
@[simp] theorem State.modSendQueue_time (f : SendQueue → SendQueue) : (s.modSendQueue f).time = s.time := rfl
@[simp] theorem State.modSendQueue_provisioning (f : SendQueue → SendQueue) :
    (s.modSendQueue f).provisioning = s.provisioning := rfl
@[simp] theorem State.modSendQueue_identity (f : SendQueue → SendQueue) :
    (s.modSendQueue f).identity = s.identity := rfl
@[simp] theorem State.modSendQueue_assocs (f : SendQueue → SendQueue) : (s.modSendQueue f).assocs = s.assocs := rfl
@[simp] theorem State.modSendQueue_stationCounters (f : SendQueue → SendQueue) :
    (s.modSendQueue f).stationCounters = s.stationCounters := rfl
@[simp] theorem State.modSendQueue_shop (f : SendQueue → SendQueue) : (s.modSendQueue f).shop = s.shop := rfl
@[simp] theorem State.modSendQueue_flow (f : SendQueue → SendQueue) : (s.modSendQueue f).flow = s.flow := rfl
@[simp] theorem State.modSendQueue_engine (f : SendQueue → SendQueue) : (s.modSendQueue f).engine = s.engine := rfl
@[simp] theorem State.modSendQueue_sendQueue (f : SendQueue → SendQueue) :
    (s.modSendQueue f).sendQueue = f s.sendQueue := rfl
@[simp] theorem State.modSendQueue_access (f : SendQueue → SendQueue) : (s.modSendQueue f).access = s.access := rfl
@[simp] theorem State.modSendQueue_receiver (f : SendQueue → SendQueue) :
    (s.modSendQueue f).receiver = s.receiver := rfl
@[simp] theorem State.modSendQueue_monitors (f : SendQueue → SendQueue) :
    (s.modSendQueue f).monitors = s.monitors := rfl
@[simp] theorem State.modSendQueue_reports (f : SendQueue → SendQueue) : (s.modSendQueue f).reports = s.reports := rfl
@[simp] theorem State.modSendQueue_management (f : SendQueue → SendQueue) :
    (s.modSendQueue f).management = s.management := rfl

/-! ## modAccess -/

@[simp] theorem State.modAccess_pending (f : Access → Access) : (s.modAccess f).pending = s.pending := rfl
@[simp] theorem State.modAccess_free (f : Access → Access) : (s.modAccess f).free = s.free := rfl
@[simp] theorem State.modAccess_power (f : Access → Access) : (s.modAccess f).power = s.power := rfl
@[simp] theorem State.modAccess_time (f : Access → Access) : (s.modAccess f).time = s.time := rfl
@[simp] theorem State.modAccess_provisioning (f : Access → Access) :
    (s.modAccess f).provisioning = s.provisioning := rfl
@[simp] theorem State.modAccess_identity (f : Access → Access) : (s.modAccess f).identity = s.identity := rfl
@[simp] theorem State.modAccess_assocs (f : Access → Access) : (s.modAccess f).assocs = s.assocs := rfl
@[simp] theorem State.modAccess_stationCounters (f : Access → Access) :
    (s.modAccess f).stationCounters = s.stationCounters := rfl
@[simp] theorem State.modAccess_shop (f : Access → Access) : (s.modAccess f).shop = s.shop := rfl
@[simp] theorem State.modAccess_flow (f : Access → Access) : (s.modAccess f).flow = s.flow := rfl
@[simp] theorem State.modAccess_engine (f : Access → Access) : (s.modAccess f).engine = s.engine := rfl
@[simp] theorem State.modAccess_sendQueue (f : Access → Access) : (s.modAccess f).sendQueue = s.sendQueue := rfl
@[simp] theorem State.modAccess_access (f : Access → Access) : (s.modAccess f).access = f s.access := rfl
@[simp] theorem State.modAccess_receiver (f : Access → Access) : (s.modAccess f).receiver = s.receiver := rfl
@[simp] theorem State.modAccess_monitors (f : Access → Access) : (s.modAccess f).monitors = s.monitors := rfl
@[simp] theorem State.modAccess_reports (f : Access → Access) : (s.modAccess f).reports = s.reports := rfl
@[simp] theorem State.modAccess_management (f : Access → Access) : (s.modAccess f).management = s.management := rfl

/-! ## clockEdge -/

@[simp] theorem State.clockEdge_pending : (s.clockEdge).pending = s.pending := rfl
@[simp] theorem State.clockEdge_free : (s.clockEdge).free = s.free := rfl
@[simp] theorem State.clockEdge_power : (s.clockEdge).power = s.power := rfl
@[simp] theorem State.clockEdge_time : (s.clockEdge).time = s.time := rfl
@[simp] theorem State.clockEdge_provisioning : (s.clockEdge).provisioning = s.provisioning := rfl
@[simp] theorem State.clockEdge_identity : (s.clockEdge).identity = s.identity := rfl
@[simp] theorem State.clockEdge_assocs : (s.clockEdge).assocs = s.assocs := rfl
@[simp] theorem State.clockEdge_stationCounters : (s.clockEdge).stationCounters = s.stationCounters := rfl
@[simp] theorem State.clockEdge_shop : (s.clockEdge).shop = s.shop := rfl
@[simp] theorem State.clockEdge_flow : (s.clockEdge).flow = s.flow := rfl
@[simp] theorem State.clockEdge_engine : (s.clockEdge).engine = s.engine := rfl
@[simp] theorem State.clockEdge_sendQueue : (s.clockEdge).sendQueue = s.sendQueue := rfl
@[simp] theorem State.clockEdge_access :
    (s.clockEdge).access = { s.access with clockDeadline := some (s.time.milliseconds + 1) } := rfl
@[simp] theorem State.clockEdge_receiver : (s.clockEdge).receiver = s.receiver := rfl
@[simp] theorem State.clockEdge_monitors : (s.clockEdge).monitors = s.monitors := rfl
@[simp] theorem State.clockEdge_reports : (s.clockEdge).reports = s.reports := rfl
@[simp] theorem State.clockEdge_management : (s.clockEdge).management = s.management := rfl

/-! ## modReceiver -/

@[simp] theorem State.modReceiver_pending (f : Receiver → Receiver) : (s.modReceiver f).pending = s.pending := rfl
@[simp] theorem State.modReceiver_free (f : Receiver → Receiver) : (s.modReceiver f).free = s.free := rfl
@[simp] theorem State.modReceiver_power (f : Receiver → Receiver) : (s.modReceiver f).power = s.power := rfl
@[simp] theorem State.modReceiver_time (f : Receiver → Receiver) : (s.modReceiver f).time = s.time := rfl
@[simp] theorem State.modReceiver_provisioning (f : Receiver → Receiver) :
    (s.modReceiver f).provisioning = s.provisioning := rfl
@[simp] theorem State.modReceiver_identity (f : Receiver → Receiver) : (s.modReceiver f).identity = s.identity := rfl
@[simp] theorem State.modReceiver_assocs (f : Receiver → Receiver) : (s.modReceiver f).assocs = s.assocs := rfl
@[simp] theorem State.modReceiver_stationCounters (f : Receiver → Receiver) :
    (s.modReceiver f).stationCounters = s.stationCounters := rfl
@[simp] theorem State.modReceiver_shop (f : Receiver → Receiver) : (s.modReceiver f).shop = s.shop := rfl
@[simp] theorem State.modReceiver_flow (f : Receiver → Receiver) : (s.modReceiver f).flow = s.flow := rfl
@[simp] theorem State.modReceiver_engine (f : Receiver → Receiver) : (s.modReceiver f).engine = s.engine := rfl
@[simp] theorem State.modReceiver_sendQueue (f : Receiver → Receiver) :
    (s.modReceiver f).sendQueue = s.sendQueue := rfl
@[simp] theorem State.modReceiver_access (f : Receiver → Receiver) : (s.modReceiver f).access = s.access := rfl
@[simp] theorem State.modReceiver_receiver (f : Receiver → Receiver) :
    (s.modReceiver f).receiver = f s.receiver := rfl
@[simp] theorem State.modReceiver_monitors (f : Receiver → Receiver) : (s.modReceiver f).monitors = s.monitors := rfl
@[simp] theorem State.modReceiver_reports (f : Receiver → Receiver) : (s.modReceiver f).reports = s.reports := rfl
@[simp] theorem State.modReceiver_management (f : Receiver → Receiver) :
    (s.modReceiver f).management = s.management := rfl

/-! ## modShop -/

@[simp] theorem State.modShop_pending (f : ShopPort → ShopPort) : (s.modShop f).pending = s.pending := rfl
@[simp] theorem State.modShop_free (f : ShopPort → ShopPort) : (s.modShop f).free = s.free := rfl
@[simp] theorem State.modShop_power (f : ShopPort → ShopPort) : (s.modShop f).power = s.power := rfl
@[simp] theorem State.modShop_time (f : ShopPort → ShopPort) : (s.modShop f).time = s.time := rfl
@[simp] theorem State.modShop_provisioning (f : ShopPort → ShopPort) :
    (s.modShop f).provisioning = s.provisioning := rfl
@[simp] theorem State.modShop_identity (f : ShopPort → ShopPort) : (s.modShop f).identity = s.identity := rfl
@[simp] theorem State.modShop_assocs (f : ShopPort → ShopPort) : (s.modShop f).assocs = s.assocs := rfl
@[simp] theorem State.modShop_stationCounters (f : ShopPort → ShopPort) :
    (s.modShop f).stationCounters = s.stationCounters := rfl
@[simp] theorem State.modShop_shop (f : ShopPort → ShopPort) : (s.modShop f).shop = f s.shop := rfl
@[simp] theorem State.modShop_flow (f : ShopPort → ShopPort) : (s.modShop f).flow = s.flow := rfl
@[simp] theorem State.modShop_engine (f : ShopPort → ShopPort) : (s.modShop f).engine = s.engine := rfl
@[simp] theorem State.modShop_sendQueue (f : ShopPort → ShopPort) : (s.modShop f).sendQueue = s.sendQueue := rfl
@[simp] theorem State.modShop_access (f : ShopPort → ShopPort) : (s.modShop f).access = s.access := rfl
@[simp] theorem State.modShop_receiver (f : ShopPort → ShopPort) : (s.modShop f).receiver = s.receiver := rfl
@[simp] theorem State.modShop_monitors (f : ShopPort → ShopPort) : (s.modShop f).monitors = s.monitors := rfl
@[simp] theorem State.modShop_reports (f : ShopPort → ShopPort) : (s.modShop f).reports = s.reports := rfl
@[simp] theorem State.modShop_management (f : ShopPort → ShopPort) : (s.modShop f).management = s.management := rfl

/-! ## modReports -/

@[simp] theorem State.modReports_pending (f : ReportQueue → ReportQueue) : (s.modReports f).pending = s.pending := rfl
@[simp] theorem State.modReports_free (f : ReportQueue → ReportQueue) : (s.modReports f).free = s.free := rfl
@[simp] theorem State.modReports_power (f : ReportQueue → ReportQueue) : (s.modReports f).power = s.power := rfl
@[simp] theorem State.modReports_time (f : ReportQueue → ReportQueue) : (s.modReports f).time = s.time := rfl
@[simp] theorem State.modReports_provisioning (f : ReportQueue → ReportQueue) :
    (s.modReports f).provisioning = s.provisioning := rfl
@[simp] theorem State.modReports_identity (f : ReportQueue → ReportQueue) :
    (s.modReports f).identity = s.identity := rfl
@[simp] theorem State.modReports_assocs (f : ReportQueue → ReportQueue) : (s.modReports f).assocs = s.assocs := rfl
@[simp] theorem State.modReports_stationCounters (f : ReportQueue → ReportQueue) :
    (s.modReports f).stationCounters = s.stationCounters := rfl
@[simp] theorem State.modReports_shop (f : ReportQueue → ReportQueue) : (s.modReports f).shop = s.shop := rfl
@[simp] theorem State.modReports_flow (f : ReportQueue → ReportQueue) : (s.modReports f).flow = s.flow := rfl
@[simp] theorem State.modReports_engine (f : ReportQueue → ReportQueue) : (s.modReports f).engine = s.engine := rfl
@[simp] theorem State.modReports_sendQueue (f : ReportQueue → ReportQueue) :
    (s.modReports f).sendQueue = s.sendQueue := rfl
@[simp] theorem State.modReports_access (f : ReportQueue → ReportQueue) : (s.modReports f).access = s.access := rfl
@[simp] theorem State.modReports_receiver (f : ReportQueue → ReportQueue) :
    (s.modReports f).receiver = s.receiver := rfl
@[simp] theorem State.modReports_monitors (f : ReportQueue → ReportQueue) :
    (s.modReports f).monitors = s.monitors := rfl
@[simp] theorem State.modReports_reports (f : ReportQueue → ReportQueue) :
    (s.modReports f).reports = f s.reports := rfl
@[simp] theorem State.modReports_management (f : ReportQueue → ReportQueue) :
    (s.modReports f).management = s.management := rfl

/-! ## modManagement -/

@[simp] theorem State.modManagement_pending (f : Management → Management) :
    (s.modManagement f).pending = s.pending := rfl
@[simp] theorem State.modManagement_free (f : Management → Management) : (s.modManagement f).free = s.free := rfl
@[simp] theorem State.modManagement_power (f : Management → Management) : (s.modManagement f).power = s.power := rfl
@[simp] theorem State.modManagement_time (f : Management → Management) : (s.modManagement f).time = s.time := rfl
@[simp] theorem State.modManagement_provisioning (f : Management → Management) :
    (s.modManagement f).provisioning = s.provisioning := rfl
@[simp] theorem State.modManagement_identity (f : Management → Management) :
    (s.modManagement f).identity = s.identity := rfl
@[simp] theorem State.modManagement_assocs (f : Management → Management) :
    (s.modManagement f).assocs = s.assocs := rfl
@[simp] theorem State.modManagement_stationCounters (f : Management → Management) :
    (s.modManagement f).stationCounters = s.stationCounters := rfl
@[simp] theorem State.modManagement_shop (f : Management → Management) : (s.modManagement f).shop = s.shop := rfl
@[simp] theorem State.modManagement_flow (f : Management → Management) : (s.modManagement f).flow = s.flow := rfl
@[simp] theorem State.modManagement_engine (f : Management → Management) :
    (s.modManagement f).engine = s.engine := rfl
@[simp] theorem State.modManagement_sendQueue (f : Management → Management) :
    (s.modManagement f).sendQueue = s.sendQueue := rfl
@[simp] theorem State.modManagement_access (f : Management → Management) :
    (s.modManagement f).access = s.access := rfl
@[simp] theorem State.modManagement_receiver (f : Management → Management) :
    (s.modManagement f).receiver = s.receiver := rfl
@[simp] theorem State.modManagement_monitors (f : Management → Management) :
    (s.modManagement f).monitors = s.monitors := rfl
@[simp] theorem State.modManagement_reports (f : Management → Management) :
    (s.modManagement f).reports = s.reports := rfl
@[simp] theorem State.modManagement_management (f : Management → Management) :
    (s.modManagement f).management = f s.management := rfl

/-! ## setMonitor -/

@[simp] theorem State.setMonitor_pending (m : MonitorId) (r : Monitor) : (s.setMonitor m r).pending = s.pending := rfl
@[simp] theorem State.setMonitor_free (m : MonitorId) (r : Monitor) : (s.setMonitor m r).free = s.free := rfl
@[simp] theorem State.setMonitor_power (m : MonitorId) (r : Monitor) : (s.setMonitor m r).power = s.power := rfl
@[simp] theorem State.setMonitor_time (m : MonitorId) (r : Monitor) : (s.setMonitor m r).time = s.time := rfl
@[simp] theorem State.setMonitor_provisioning (m : MonitorId) (r : Monitor) :
    (s.setMonitor m r).provisioning = s.provisioning := rfl
@[simp] theorem State.setMonitor_identity (m : MonitorId) (r : Monitor) :
    (s.setMonitor m r).identity = s.identity := rfl
@[simp] theorem State.setMonitor_assocs (m : MonitorId) (r : Monitor) : (s.setMonitor m r).assocs = s.assocs := rfl
@[simp] theorem State.setMonitor_stationCounters (m : MonitorId) (r : Monitor) :
    (s.setMonitor m r).stationCounters = s.stationCounters := rfl
@[simp] theorem State.setMonitor_shop (m : MonitorId) (r : Monitor) : (s.setMonitor m r).shop = s.shop := rfl
@[simp] theorem State.setMonitor_flow (m : MonitorId) (r : Monitor) : (s.setMonitor m r).flow = s.flow := rfl
@[simp] theorem State.setMonitor_engine (m : MonitorId) (r : Monitor) : (s.setMonitor m r).engine = s.engine := rfl
@[simp] theorem State.setMonitor_sendQueue (m : MonitorId) (r : Monitor) :
    (s.setMonitor m r).sendQueue = s.sendQueue := rfl
@[simp] theorem State.setMonitor_access (m : MonitorId) (r : Monitor) : (s.setMonitor m r).access = s.access := rfl
@[simp] theorem State.setMonitor_receiver (m : MonitorId) (r : Monitor) :
    (s.setMonitor m r).receiver = s.receiver := rfl
@[simp] theorem State.setMonitor_monitors (m : MonitorId) (r : Monitor) :
    (s.setMonitor m r).monitors = s.monitors.set m r := rfl
@[simp] theorem State.setMonitor_reports (m : MonitorId) (r : Monitor) : (s.setMonitor m r).reports = s.reports := rfl
@[simp] theorem State.setMonitor_management (m : MonitorId) (r : Monitor) :
    (s.setMonitor m r).management = s.management := rfl

/-! ## setFlow -/

@[simp] theorem State.setFlow_pending (p : Fin 48) (e : FlowEntry) : (s.setFlow p e).pending = s.pending := rfl
@[simp] theorem State.setFlow_free (p : Fin 48) (e : FlowEntry) : (s.setFlow p e).free = s.free := rfl
@[simp] theorem State.setFlow_power (p : Fin 48) (e : FlowEntry) : (s.setFlow p e).power = s.power := rfl
@[simp] theorem State.setFlow_time (p : Fin 48) (e : FlowEntry) : (s.setFlow p e).time = s.time := rfl
@[simp] theorem State.setFlow_provisioning (p : Fin 48) (e : FlowEntry) :
    (s.setFlow p e).provisioning = s.provisioning := rfl
@[simp] theorem State.setFlow_identity (p : Fin 48) (e : FlowEntry) : (s.setFlow p e).identity = s.identity := rfl
@[simp] theorem State.setFlow_assocs (p : Fin 48) (e : FlowEntry) : (s.setFlow p e).assocs = s.assocs := rfl
@[simp] theorem State.setFlow_stationCounters (p : Fin 48) (e : FlowEntry) :
    (s.setFlow p e).stationCounters = s.stationCounters := rfl
@[simp] theorem State.setFlow_shop (p : Fin 48) (e : FlowEntry) : (s.setFlow p e).shop = s.shop := rfl
@[simp] theorem State.setFlow_flow (p : Fin 48) (e : FlowEntry) : (s.setFlow p e).flow = s.flow.set p e := rfl
@[simp] theorem State.setFlow_engine (p : Fin 48) (e : FlowEntry) : (s.setFlow p e).engine = s.engine := rfl
@[simp] theorem State.setFlow_sendQueue (p : Fin 48) (e : FlowEntry) : (s.setFlow p e).sendQueue = s.sendQueue := rfl
@[simp] theorem State.setFlow_access (p : Fin 48) (e : FlowEntry) : (s.setFlow p e).access = s.access := rfl
@[simp] theorem State.setFlow_receiver (p : Fin 48) (e : FlowEntry) : (s.setFlow p e).receiver = s.receiver := rfl
@[simp] theorem State.setFlow_monitors (p : Fin 48) (e : FlowEntry) : (s.setFlow p e).monitors = s.monitors := rfl
@[simp] theorem State.setFlow_reports (p : Fin 48) (e : FlowEntry) : (s.setFlow p e).reports = s.reports := rfl
@[simp] theorem State.setFlow_management (p : Fin 48) (e : FlowEntry) :
    (s.setFlow p e).management = s.management := rfl

/-! ## countHit -/

@[simp] theorem State.countHit_pending (p : Fin 48) : (s.countHit p).pending = s.pending := rfl
@[simp] theorem State.countHit_free (p : Fin 48) : (s.countHit p).free = s.free := rfl
@[simp] theorem State.countHit_power (p : Fin 48) : (s.countHit p).power = s.power := rfl
@[simp] theorem State.countHit_time (p : Fin 48) : (s.countHit p).time = s.time := rfl
@[simp] theorem State.countHit_provisioning (p : Fin 48) : (s.countHit p).provisioning = s.provisioning := rfl
@[simp] theorem State.countHit_identity (p : Fin 48) : (s.countHit p).identity = s.identity := rfl
@[simp] theorem State.countHit_assocs (p : Fin 48) : (s.countHit p).assocs = s.assocs := rfl
@[simp] theorem State.countHit_stationCounters (p : Fin 48) :
    (s.countHit p).stationCounters = s.stationCounters := rfl
@[simp] theorem State.countHit_shop (p : Fin 48) : (s.countHit p).shop = s.shop := rfl
@[simp] theorem State.countHit_engine (p : Fin 48) : (s.countHit p).engine = s.engine := rfl
@[simp] theorem State.countHit_sendQueue (p : Fin 48) : (s.countHit p).sendQueue = s.sendQueue := rfl
@[simp] theorem State.countHit_access (p : Fin 48) : (s.countHit p).access = s.access := rfl
@[simp] theorem State.countHit_receiver (p : Fin 48) : (s.countHit p).receiver = s.receiver := rfl
@[simp] theorem State.countHit_monitors (p : Fin 48) : (s.countHit p).monitors = s.monitors := rfl
@[simp] theorem State.countHit_reports (p : Fin 48) : (s.countHit p).reports = s.reports := rfl
@[simp] theorem State.countHit_management (p : Fin 48) : (s.countHit p).management = s.management := rfl

/-! ## spendChoice -/

@[simp] theorem State.spendChoice_pending : (s.spendChoice).pending = s.pending := rfl
@[simp] theorem State.spendChoice_free : (s.spendChoice).free = s.free + 1 := rfl
@[simp] theorem State.spendChoice_power : (s.spendChoice).power = s.power := rfl
@[simp] theorem State.spendChoice_time : (s.spendChoice).time = s.time := rfl
@[simp] theorem State.spendChoice_provisioning : (s.spendChoice).provisioning = s.provisioning := rfl
@[simp] theorem State.spendChoice_identity : (s.spendChoice).identity = s.identity := rfl
@[simp] theorem State.spendChoice_assocs : (s.spendChoice).assocs = s.assocs := rfl
@[simp] theorem State.spendChoice_stationCounters : (s.spendChoice).stationCounters = s.stationCounters := rfl
@[simp] theorem State.spendChoice_shop : (s.spendChoice).shop = s.shop := rfl
@[simp] theorem State.spendChoice_flow : (s.spendChoice).flow = s.flow := rfl
@[simp] theorem State.spendChoice_engine : (s.spendChoice).engine = s.engine := rfl
@[simp] theorem State.spendChoice_sendQueue : (s.spendChoice).sendQueue = s.sendQueue := rfl
@[simp] theorem State.spendChoice_access : (s.spendChoice).access = s.access := rfl
@[simp] theorem State.spendChoice_receiver : (s.spendChoice).receiver = s.receiver := rfl
@[simp] theorem State.spendChoice_monitors : (s.spendChoice).monitors = s.monitors := rfl
@[simp] theorem State.spendChoice_reports : (s.spendChoice).reports = s.reports := rfl
@[simp] theorem State.spendChoice_management : (s.spendChoice).management = s.management := rfl

/-! ## setTime -/

@[simp] theorem State.setTime_pending (m : Nat) (n : W32) : (s.setTime m n).pending = s.pending := rfl
@[simp] theorem State.setTime_free (m : Nat) (n : W32) : (s.setTime m n).free = s.free := rfl
@[simp] theorem State.setTime_power (m : Nat) (n : W32) : (s.setTime m n).power = s.power := rfl
@[simp] theorem State.setTime_time (m : Nat) (n : W32) :
    (s.setTime m n).time = { s.time with milliseconds := m, seconds := n } := rfl
@[simp] theorem State.setTime_provisioning (m : Nat) (n : W32) : (s.setTime m n).provisioning = s.provisioning := rfl
@[simp] theorem State.setTime_identity (m : Nat) (n : W32) : (s.setTime m n).identity = s.identity := rfl
@[simp] theorem State.setTime_assocs (m : Nat) (n : W32) : (s.setTime m n).assocs = s.assocs := rfl
@[simp] theorem State.setTime_stationCounters (m : Nat) (n : W32) :
    (s.setTime m n).stationCounters = s.stationCounters := rfl
@[simp] theorem State.setTime_shop (m : Nat) (n : W32) : (s.setTime m n).shop = s.shop := rfl
@[simp] theorem State.setTime_flow (m : Nat) (n : W32) : (s.setTime m n).flow = s.flow := rfl
@[simp] theorem State.setTime_engine (m : Nat) (n : W32) : (s.setTime m n).engine = s.engine := rfl
@[simp] theorem State.setTime_sendQueue (m : Nat) (n : W32) : (s.setTime m n).sendQueue = s.sendQueue := rfl
@[simp] theorem State.setTime_access (m : Nat) (n : W32) : (s.setTime m n).access = s.access.atTime m := rfl
@[simp] theorem State.setTime_receiver (m : Nat) (n : W32) : (s.setTime m n).receiver = s.receiver := rfl
@[simp] theorem State.setTime_monitors (m : Nat) (n : W32) : (s.setTime m n).monitors = s.monitors := rfl
@[simp] theorem State.setTime_reports (m : Nat) (n : W32) : (s.setTime m n).reports = s.reports := rfl
@[simp] theorem State.setTime_management (m : Nat) (n : W32) : (s.setTime m n).management = s.management := rfl

/-! ## setStoreWaits -/

@[simp] theorem State.setStoreWaits_pending (b : Bool) : (s.setStoreWaits b).pending = s.pending := rfl
@[simp] theorem State.setStoreWaits_free (b : Bool) : (s.setStoreWaits b).free = s.free := rfl
@[simp] theorem State.setStoreWaits_power (b : Bool) : (s.setStoreWaits b).power = s.power := rfl
@[simp] theorem State.setStoreWaits_time (b : Bool) : (s.setStoreWaits b).time = { s.time with storeWaits := b } := rfl
@[simp] theorem State.setStoreWaits_provisioning (b : Bool) : (s.setStoreWaits b).provisioning = s.provisioning := rfl
@[simp] theorem State.setStoreWaits_identity (b : Bool) : (s.setStoreWaits b).identity = s.identity := rfl
@[simp] theorem State.setStoreWaits_assocs (b : Bool) : (s.setStoreWaits b).assocs = s.assocs := rfl
@[simp] theorem State.setStoreWaits_stationCounters (b : Bool) : (s.setStoreWaits b).stationCounters = s.stationCounters := rfl
@[simp] theorem State.setStoreWaits_shop (b : Bool) : (s.setStoreWaits b).shop = s.shop := rfl
@[simp] theorem State.setStoreWaits_flow (b : Bool) : (s.setStoreWaits b).flow = s.flow := rfl
@[simp] theorem State.setStoreWaits_engine (b : Bool) : (s.setStoreWaits b).engine = s.engine := rfl
@[simp] theorem State.setStoreWaits_sendQueue (b : Bool) : (s.setStoreWaits b).sendQueue = s.sendQueue := rfl
@[simp] theorem State.setStoreWaits_access (b : Bool) : (s.setStoreWaits b).access = s.access := rfl
@[simp] theorem State.setStoreWaits_receiver (b : Bool) : (s.setStoreWaits b).receiver = s.receiver := rfl
@[simp] theorem State.setStoreWaits_monitors (b : Bool) : (s.setStoreWaits b).monitors = s.monitors := rfl
@[simp] theorem State.setStoreWaits_reports (b : Bool) : (s.setStoreWaits b).reports = s.reports := rfl
@[simp] theorem State.setStoreWaits_management (b : Bool) : (s.setStoreWaits b).management = s.management := rfl

/-! ## newSecond -/

@[simp] theorem State.newSecond_pending : s.newSecond.pending = s.pending := rfl
@[simp] theorem State.newSecond_free : s.newSecond.free = s.free := rfl
@[simp] theorem State.newSecond_power : s.newSecond.power = s.power := rfl
@[simp] theorem State.newSecond_provisioning : s.newSecond.provisioning = s.provisioning := rfl
@[simp] theorem State.newSecond_identity : s.newSecond.identity = s.identity := rfl
@[simp] theorem State.newSecond_assocs : s.newSecond.assocs = s.assocs := rfl
@[simp] theorem State.newSecond_stationCounters : s.newSecond.stationCounters = s.stationCounters := rfl
@[simp] theorem State.newSecond_shop : s.newSecond.shop = s.shop := rfl
@[simp] theorem State.newSecond_flow : s.newSecond.flow = s.flow := rfl
@[simp] theorem State.newSecond_engine : s.newSecond.engine = s.engine := rfl
@[simp] theorem State.newSecond_sendQueue : s.newSecond.sendQueue = s.sendQueue := rfl
@[simp] theorem State.newSecond_receiver : s.newSecond.receiver = s.receiver := rfl
@[simp] theorem State.newSecond_monitors : s.newSecond.monitors = s.monitors := rfl
@[simp] theorem State.newSecond_reports : s.newSecond.reports = s.reports := rfl
@[simp] theorem State.newSecond_management : s.newSecond.management = s.management := rfl
@[simp] theorem State.newSecond_time :
    s.newSecond.time =
      { milliseconds := max s.time.milliseconds (1000 * (s.now + 1)), seconds := s.time.seconds + 1, storeWaits := true } :=
  rfl
@[simp] theorem State.newSecond_access :
    s.newSecond.access = s.access.atTime (max s.time.milliseconds (1000 * (s.now + 1))) := rfl

/-! ## reach -/

/-- R171: what the coming of time to a reading of the millisecond count can do. -/
theorem State.reach_cases (t : Nat) :
    (s.time.milliseconds < t ∧ 1000 * (s.now + 1) ≤ t ∧ s.time.seconds ≠ 4294967295 ∧ s.reach t = s.newSecond) ∨
      (¬(s.time.milliseconds < t ∧ 1000 * (s.now + 1) ≤ t ∧ s.time.seconds ≠ 4294967295) ∧
        s.reach t = s.setTime (max s.time.milliseconds t) s.time.seconds) := by
  unfold State.reach
  split
  · rename_i h; exact .inl ⟨h.1, h.2.1, h.2.2, rfl⟩
  · rename_i h; exact .inr ⟨h, rfl⟩

@[simp] theorem State.reach_pending (t : Nat) : (s.reach t).pending = s.pending := by unfold State.reach; split <;> rfl
@[simp] theorem State.reach_free (t : Nat) : (s.reach t).free = s.free := by unfold State.reach; split <;> rfl
@[simp] theorem State.reach_power (t : Nat) : (s.reach t).power = s.power := by unfold State.reach; split <;> rfl
@[simp] theorem State.reach_provisioning (t : Nat) : (s.reach t).provisioning = s.provisioning := by unfold State.reach; split <;> rfl
@[simp] theorem State.reach_identity (t : Nat) : (s.reach t).identity = s.identity := by unfold State.reach; split <;> rfl
@[simp] theorem State.reach_assocs (t : Nat) : (s.reach t).assocs = s.assocs := by unfold State.reach; split <;> rfl
@[simp] theorem State.reach_stationCounters (t : Nat) : (s.reach t).stationCounters = s.stationCounters := by unfold State.reach; split <;> rfl
@[simp] theorem State.reach_shop (t : Nat) : (s.reach t).shop = s.shop := by unfold State.reach; split <;> rfl
@[simp] theorem State.reach_flow (t : Nat) : (s.reach t).flow = s.flow := by unfold State.reach; split <;> rfl
@[simp] theorem State.reach_engine (t : Nat) : (s.reach t).engine = s.engine := by unfold State.reach; split <;> rfl
@[simp] theorem State.reach_sendQueue (t : Nat) : (s.reach t).sendQueue = s.sendQueue := by unfold State.reach; split <;> rfl
@[simp] theorem State.reach_receiver (t : Nat) : (s.reach t).receiver = s.receiver := by unfold State.reach; split <;> rfl
@[simp] theorem State.reach_monitors (t : Nat) : (s.reach t).monitors = s.monitors := by unfold State.reach; split <;> rfl
@[simp] theorem State.reach_reports (t : Nat) : (s.reach t).reports = s.reports := by unfold State.reach; split <;> rfl
@[simp] theorem State.reach_management (t : Nat) : (s.reach t).management = s.management := by unfold State.reach; split <;> rfl

/-! ## atTime -/

@[simp] theorem Access.atTime_state (x : Access) (t : Nat) : (x.atTime t).state = x.state := rfl
@[simp] theorem Access.atTime_watch (x : Access) (t : Nat) : (x.atTime t).watch = x.watch := rfl
@[simp] theorem Access.atTime_idleCount (x : Access) (t : Nat) : (x.atTime t).idleCount = x.idleCount := rfl
@[simp] theorem Access.atTime_stationBits (x : Access) (t : Nat) : (x.atTime t).stationBits = x.stationBits := rfl
@[simp] theorem Access.atTime_octetCount (x : Access) (t : Nat) : (x.atTime t).octetCount = x.octetCount := rfl
@[simp] theorem Access.atTime_clashes (x : Access) (t : Nat) : (x.atTime t).clashes = x.clashes := rfl
@[simp] theorem Access.atTime_openGaps (x : Access) (t : Nat) : (x.atTime t).openGaps = x.openGaps := rfl
@[simp] theorem Access.atTime_pace (x : Access) (t : Nat) : (x.atTime t).pace = x.pace := rfl
@[simp] theorem Access.atTime_sentInBurst (x : Access) (t : Nat) : (x.atTime t).sentInBurst = x.sentInBurst := rfl
@[simp] theorem Access.atTime_transmission (x : Access) (t : Nat) : (x.atTime t).transmission = x.transmission := rfl
@[simp] theorem Access.atTime_standoffDeadline (x : Access) (t : Nat) : (x.atTime t).standoffDeadline = x.standoffDeadline := rfl

/-- R95, R172: the clock-loss measure is restarted where it lies below the reading. -/
@[simp] theorem Access.atTime_clockDeadline (x : Access) (t : Nat) :
    (x.atTime t).clockDeadline = x.clockDeadline.map (fun d => if d < t then t + 1 else d) := rfl

/-- R95: the trunk clock runs on as time passes. -/
theorem Access.atTime_isSome (x : Access) (t : Nat) : (x.atTime t).clockDeadline.isSome = x.clockDeadline.isSome := by
  simp

end Sys2Proof.Machine
end

