-- ==== Sys2Proof/Laws/Records.lean ====
section
/-! SUPPORT. What the operations over records do: association and bank records, monitors, Flow Table entries, counters. -/

namespace Sys2Proof.Machine

/-! ## Association records -/

/-- A record that was written reads as written; every other record reads as before. -/
theorem State.assoc_setAssoc (s : State) (a b : AssocId) (r : Assoc) :
    (s.setAssoc a r).assoc b = if b = a then r else s.assoc b := by
  simp only [State.assoc, State.setAssoc, Fin.getElem_fin, Vector.getElem_set]
  by_cases h : b = a
  · simp [h]
  · simp [h, Fin.val_inj, Ne.symm h]

/-- A record that was changed reads as changed; every other record reads as before. -/
theorem State.assoc_modAssoc (s : State) (a b : AssocId) (f : Assoc → Assoc) :
    (s.modAssoc a f).assoc b = if b = a then f (s.assoc a) else s.assoc b := by
  simp [State.modAssoc, State.assoc_setAssoc]

@[simp] theorem State.assoc_modAssoc_same (s : State) (a : AssocId) (f : Assoc → Assoc) :
    (s.modAssoc a f).assoc a = f (s.assoc a) := by simp [State.assoc_modAssoc]

theorem State.assoc_modAssoc_ne (s : State) {a b : AssocId} (f : Assoc → Assoc) (h : b ≠ a) :
    (s.modAssoc a f).assoc b = s.assoc b := by simp [State.assoc_modAssoc, h]

/-- Two states with the same records read the same. -/
theorem State.assoc_congr {s t : State} (h : t.assocs = s.assocs) (a : AssocId) : t.assoc a = s.assoc a := by
  simp [State.assoc, h]

/-- Writing a record back changes nothing. -/
theorem State.setAssoc_self (s : State) (a : AssocId) : s.setAssoc a (s.assoc a) = s := by
  simp [State.setAssoc, State.assoc]

/-! ## Banks -/

@[simp] theorem Assoc.bank_setBank_same (r : Assoc) (b : BankId) (k : Bank) : (r.setBank b k).bank b = k := by
  cases b <;> rfl

theorem Assoc.bank_setBank_other (r : Assoc) (b : BankId) (k : Bank) :
    (r.setBank b k).bank (otherBank b) = r.bank (otherBank b) := by cases b <;> rfl

/-- Writing a bank changes the record's two banks alone. -/
theorem Assoc.setBank_frame (r : Assoc) (b : BankId) (k : Bank) :
    (r.setBank b k).state = r.state ∧ (r.setBank b k).direction = r.direction ∧
      (r.setBank b k).trafficClass = r.trafficClass ∧ (r.setBank b k).policy = r.policy ∧
      (r.setBank b k).selector = r.selector ∧ (r.setBank b k).inFlight = r.inFlight ∧
      (r.setBank b k).transaction = r.transaction ∧ (r.setBank b k).monitorRenewal = r.monitorRenewal ∧
      (r.setBank b k).counters = r.counters ∧ (r.setBank b k).quiet = r.quiet ∧
      (r.setBank b k).renewDeadline = r.renewDeadline := by
  cases b <;> exact ⟨rfl, rfl, rfl, rfl, rfl, rfl, rfl, rfl, rfl, rfl, rfl⟩

/-- The bank found in a state is in that state. -/
theorem Assoc.bankIn_state {r : Assoc} {st : BankState} {b : BankId} (h : r.bankIn st = some b) :
    (r.bank b).state = st := by
  unfold Assoc.bankIn at h
  split at h
  · cases h; assumption
  · split at h
    · cases h; assumption
    · cases h

/-- No bank is found in a state exactly when neither is in it. -/
theorem Assoc.bankIn_none {r : Assoc} {st : BankState} :
    r.bankIn st = none ↔ r.bankA.state ≠ st ∧ r.bankB.state ≠ st := by
  unfold Assoc.bankIn
  split
  · simp_all
  · split <;> simp_all

/-- R15, R16: what a release can do: the bank becomes EMPTY when it is RETIRING and this was its last item; otherwise its
in-use count alone falls. -/
theorem Bank.release_cases (k : Bank) :
    (k.state = .retiring ∧ k.inUse ≤ 1 ∧ k.release = emptyBank) ∨
      (¬(k.state = .retiring ∧ k.inUse ≤ 1) ∧ k.release = { k with inUse := k.inUse - 1 }) := by
  unfold Bank.release
  split
  · exact .inl ⟨‹_ ∧ _›.1, ‹_ ∧ _›.2, rfl⟩
  · exact .inr ⟨‹_›, rfl⟩

/-- R3, R6: what settling a closing can do. -/
theorem Assoc.settleClosing_cases (r : Assoc) :
    (r.state = .closing ∧ r.inFlight = 0 ∧ r.settleClosing = r.vacated) ∨
      (¬(r.state = .closing ∧ r.inFlight = 0) ∧ r.settleClosing = r) := by
  unfold Assoc.settleClosing
  split
  · exact .inl ⟨‹_ ∧ _›.1, ‹_ ∧ _›.2, rfl⟩
  · exact .inr ⟨‹_›, rfl⟩

/-! ## Counters -/

/-- R179: no two station counters share a place. -/
theorem StationCounter.index_injective {c d : StationCounter} (h : c.index = d.index) : c = d := by
  revert h; cases c <;> cases d <;> decide

/-- R179: no two association counters share a place. -/
theorem AssocCounter.index_injective {c d : AssocCounter} (h : c.index = d.index) : c = d := by
  revert h; cases c <;> cases d <;> decide

/-- R20: counting an event of the station adds one to its counter, stopping at the maximum, and to no other. -/
theorem State.stationCount_countStation (s : State) (c d : StationCounter) :
    (s.countStation c).stationCount d = if d = c then satInc (s.stationCount c) else s.stationCount d := by
  simp only [State.stationCount, State.countStation, Fin.getElem_fin, Vector.getElem_set]
  by_cases h : d = c
  · simp [h]
  · have hi : c.index.val ≠ d.index.val := fun e => h (StationCounter.index_injective (Fin.val_injective e)).symm
    simp [h, hi]

/-- R19: counting an event on an association adds one to its counter, stopping at the maximum, and to no other. -/
theorem State.assocCount_countAssoc (s : State) (a b : AssocId) (c d : AssocCounter) :
    (s.countAssoc a c).assocCount b d =
      if b = a ∧ d = c then satInc (s.assocCount a c) else s.assocCount b d := by
  unfold State.assocCount State.countAssoc
  rw [State.assoc_modAssoc]
  by_cases h : b = a
  · subst h
    simp only [Fin.getElem_fin, if_true, Vector.getElem_set, true_and]
    by_cases h : d = c
    · simp [h]
    · have hi : c.index.val ≠ d.index.val := fun e => h (AssocCounter.index_injective (Fin.val_injective e)).symm
      simp [h, hi]
  · simp [h]

/-- R19: a counter stops at its maximum. -/
theorem satInc_toNat {n : Nat} (x : BitVec n) : (satInc x).toNat = min (x.toNat + 1) (2 ^ n - 1) := by
  unfold satInc
  split
  · subst_vars; simp [BitVec.toNat_allOnes]
  · rename_i h
    have h1 : x.toNat ≠ 2 ^ n - 1 := fun e => h (BitVec.eq_of_toNat_eq (by simp [BitVec.toNat_allOnes, e]))
    have h2 := x.isLt
    have h3 : n ≠ 0 := by rintro rfl; omega
    have h4 : 1 < 2 ^ n := Nat.one_lt_two_pow h3
    have h5 : (1 : BitVec n).toNat = 1 := by
      show 1 % 2 ^ n = 1
      exact Nat.mod_eq_of_lt h4
    rw [BitVec.toNat_add, h5, Nat.mod_eq_of_lt (by omega)]
    omega

/-! ## Monitors and the Flow Table -/

/-- A monitor that was written reads as written; every other reads as before. -/
theorem State.monitor_setMonitor (s : State) (m n : MonitorId) (r : Monitor) :
    (s.setMonitor m r).monitor n = if n = m then r else s.monitor n := by
  simp only [State.monitor, State.setMonitor, Fin.getElem_fin, Vector.getElem_set]
  by_cases h : n = m
  · simp [h]
  · simp [h, Fin.val_inj, Ne.symm h]

/-- An entry that was written reads as written; every other reads as before. -/
theorem State.flowEntry_setFlow (s : State) (p q : Fin 48) (e : FlowEntry) :
    (s.setFlow p e).flowEntry q = if q = p then e else s.flowEntry q := by
  simp only [State.flowEntry, State.setFlow, Fin.getElem_fin, Vector.getElem_set]
  by_cases h : q = p
  · simp [h]
  · simp [h, Fin.val_inj, Ne.symm h]

end Sys2Proof.Machine
end

