-- ==== Sys2Proof/Laws/Settle.lean ====
section
/-! SUPPORT. What the repeated operations come to: the settling of an event (R44, R158), the send attempts of the Fault
Report Queue (R147), the evaluation of renewal-due over a list (R113). -/

namespace Sys2Proof.Machine

/-- R44, R158: an event with nothing to take and nothing to choose ends as it stands. -/
theorem State.settle_self {s : State} (ht : s.canTake = false) (hc : s.arbiterChoice = none) : s.settle = s := by
  have h : ∀ n, 0 < n → s.settleWith n = s := by
    intro n hn
    cases n with
    | zero => omega
    | succ n => simp [State.settleWith, ht, hc]
  exact h _ (by unfold State.settleFuel; omega)

/-- R42, R44: a BUSY engine makes no choice. -/
theorem State.arbiterChoice_busy {s : State} (h : s.engine.current.isSome = true) : s.arbiterChoice = none := by
  simp [State.arbiterChoice, h]

/-- R44: with nothing in any queue there is no choice. -/
theorem State.arbiterChoice_empty {s : State} (ho : s.engine.outbound = []) (hi : s.engine.inbound = [])
    (hu : s.engine.unwrap = []) : s.arbiterChoice = none := by
  simp [State.arbiterChoice, State.outboundReady, ho, hi, hu]

/-- R158: an empty inbox gives nothing to take. -/
theorem State.canTake_empty {s : State} (h : s.management.inbox = []) : s.canTake = false := by
  simp [State.canTake, h]

/-- Settling keeps whatever every taking, every choice and every free choice keeps. -/
theorem State.settleWith_keeps (P : State → Prop)
    (take : ∀ s, P s → s.canTake = true → P s.takeHead)
    (serve : ∀ s c, P s → s.arbiterChoice = some c → P (s.serve c))
    (spend : ∀ s, P s → P s.spendChoice) (fuel : Nat) (s : State) (h : P s) : P (s.settleWith fuel) := by
  induction fuel generalizing s with
  | zero => exact h
  | succ n ih =>
    unfold State.settleWith
    split
    · rename_i ht
      split
      · exact ih _ (take s h ht)
      · rename_i c hc
        split
        · exact ih _ (take _ (spend s h) ht)
        · exact ih _ (serve _ c (spend s h) hc)
    · split
      · exact h
      · rename_i c hc
        exact ih _ (serve s c h hc)

/-- Settling keeps whatever every taking, every choice and every free choice keeps. -/
theorem State.settle_keeps (P : State → Prop)
    (take : ∀ s, P s → s.canTake = true → P s.takeHead)
    (serve : ∀ s c, P s → s.arbiterChoice = some c → P (s.serve c))
    (spend : ∀ s, P s → P s.spendChoice) (s : State) (h : P s) : P s.settle :=
  State.settleWith_keeps P take serve spend _ s h

/-- R147: a send attempt keeps whatever an offer made under its conditions keeps, and whatever a change of the retry timer
keeps. -/
theorem State.attemptSend_keeps (P : State → Prop)
    (offer : ∀ s r, P s → s.reports.records.find? (offerTest s.reports.records) = some r →
      inFlightCount s.reports.records < 4 → s.reports.pacingDeadline = none → s.controlRoom = true →
      P (s.offerReport r))
    (retry : ∀ s t, P s → P (s.modReports (fun q => { q with retryDeadline := t })))
    (fuel : Nat) (s : State) (h : P s) : P (s.attemptSend fuel) := by
  induction fuel generalizing s with
  | zero => exact h
  | succ n ih =>
    unfold State.attemptSend
    split
    · exact retry s none h
    · rename_i r hr
      split
      · exact retry s none h
      · rename_i hc
        split
        · rename_i hroom
          simp only [not_or, not_le] at hc
          exact ih _ (offer s r h hr hc.1 (by simpa using hc.2) hroom)
        · exact retry s _ h

/-- R113: evaluating a list keeps whatever each evaluation keeps. -/
theorem State.evaluateAll_keeps (P : State → Prop) (ev : ∀ s a, P s → P (s.evaluateDue a)) (l : List AssocId)
    (s : State) (h : P s) : P (s.evaluateAll l) := by
  unfold State.evaluateAll
  induction l generalizing s with
  | nil => exact h
  | cons a l ih => exact ih _ (ev s a h)

/-- R113, R114: what an evaluation can do: nothing, an offer with the start of the timer, or the timer's end. -/
theorem State.evaluateDue_cases (s : State) (a : AssocId) :
    ((s.assoc a).isDue = true ∧ (s.assoc a).renewDeadline.isSome = true ∧ s.evaluateDue a = s) ∨
      ((s.assoc a).isDue = true ∧ (s.assoc a).renewDeadline = none ∧
        s.evaluateDue a = (s.offerRenewRequest a).startRenewTimer a) ∨
      ((s.assoc a).isDue = false ∧ s.evaluateDue a = s.modAssoc a (fun r => { r with renewDeadline := none })) := by
  unfold State.evaluateDue
  split
  · rename_i h
    cases hd : (s.assoc a).renewDeadline with
    | none => exact .inr (.inl ⟨h, rfl, by simp⟩)
    | some t => exact .inl ⟨h, rfl, by simp⟩
  · rename_i h
    exact .inr (.inr ⟨by simpa using h, rfl⟩)

/-- R114: what the offer of a RENEW_REQUEST can do: nothing, or one item joins the Outbound Work Queue, with control
room. -/
theorem State.offerRenewRequest_cases (s : State) (a : AssocId) :
    s.offerRenewRequest a = s ∨
      ∃ p, s.controlRoom = true ∧
        s.offerRenewRequest a = s.joinOutbound { assoc := 0, plaintext := p, restartMark := false, setsMark := false } := by
  unfold State.offerRenewRequest
  split
  · exact .inl rfl
  · split
    · exact .inr ⟨_, ‹_›, rfl⟩
    · exact .inl rfl

/-- R160: what the offer of an answer can do. -/
theorem State.offerAnswer_cases (s : State) (kind tag : Byte) (code : Completion) (body : List Byte)
    (atTaking restartMark : Bool) :
    (s.controlRoom = true ∧
        s.offerAnswer kind tag code body atTaking restartMark =
          (s.joinOutbound { assoc := 0, plaintext := answerOctets kind tag code body, restartMark := restartMark,
                            setsMark := atTaking }).modManagement
            (fun m => { m with answerOutstanding := m.answerOutstanding || atTaking })) ∨
      (s.controlRoom = false ∧
        s.offerAnswer kind tag code body atTaking restartMark = s.countStation .responseDrop) := by
  unfold State.offerAnswer
  split
  · exact .inl ⟨‹_›, rfl⟩
  · rename_i h
    exact .inr ⟨by simpa using h, rfl⟩

/-- R157: what the joining of the Control Inbox can do. -/
theorem State.joinInbox_cases (s : State) (m : ControlMessage) :
    (s.management.inbox.length < 4 ∧
        s.joinInbox m = s.modManagement (fun u => { u with inbox := u.inbox ++ [m] })) ∨
      (4 ≤ s.management.inbox.length ∧ s.joinInbox m = s.countStation .inboxDrop) := by
  unfold State.joinInbox
  split
  · exact .inl ⟨‹_›, rfl⟩
  · exact .inr ⟨by omega, rfl⟩

end Sys2Proof.Machine
end

