-- ==== Sys2Proof/Laws/Frames.lean ====
section
/-! SUPPORT. What the shared operations leave alone: a send attempt and a report handed over change the Fault Report Queue,
join items to the Outbound Work Queue and may count REPORT_DROP; an evaluation of renewal-due and an answer offered change
what their lemmas name. What the end of a transaction comes to. And how an event ends while the engine is BUSY. -/

namespace Sys2Proof.Machine

/-- R148: an offer joins one item to the Outbound Work Queue. -/
theorem State.offerReport_frame (s : State) (r : ReportRecord) : ∃ q i,
    s.offerReport r = { s with reports := q, engine := { s.engine with outbound := s.engine.outbound ++ [i] } } :=
  ⟨_, _, rfl⟩

/-- R147, R148: a send attempt changes the Fault Report Queue and joins items to the Outbound Work Queue at the tail. -/
theorem State.sendAttempt_frame (s : State) : ∃ q l,
    s.sendAttempt = { s with reports := q, engine := { s.engine with outbound := s.engine.outbound ++ l } } := by
  let P : State → Prop := fun t => ∃ q l,
    t = { s with reports := q, engine := { s.engine with outbound := s.engine.outbound ++ l } }
  have h : P (s.attemptSend 5) := by
    refine State.attemptSend_keeps P ?_ ?_ 5 s ⟨s.reports, [], by simp⟩
    · rintro t r ⟨q, l, rfl⟩ _ _ _ _
      obtain ⟨q', i, h⟩ := State.offerReport_frame
        { s with reports := q, engine := { s.engine with outbound := s.engine.outbound ++ l } } r
      exact ⟨q', l ++ [i], by rw [h]; simp only [List.append_assoc]⟩
    · rintro t d ⟨q, l, rfl⟩
      exact ⟨_, l, rfl⟩
  exact h

/-- R144 to R149: a report handed over changes the Fault Report Queue, joins items to the Outbound Work Queue at the tail,
and counts on the station's counters. -/
theorem State.handReport_frame (s : State) (p : Report) : ∃ q l c,
    s.handReport p =
      { s with
        reports := q, stationCounters := c, engine := { s.engine with outbound := s.engine.outbound ++ l } } := by
  unfold State.handReport
  extract_lets now
  split
  · obtain ⟨q, l, h⟩ := (s.modReports (fun q =>
      { q with records := modifyFirst (fun r => r.isUnsentOf p.kind p.source) (fun r => r.fold p now) q.records }
      )).sendAttempt_frame
    exact ⟨q, l, s.stationCounters, h⟩
  · split
    · obtain ⟨q, l, h⟩ := (s.modReports (fun q => q.create p now)).sendAttempt_frame
      exact ⟨q, l, s.stationCounters, h⟩
    · split
      · obtain ⟨q, l, h⟩ := (s.countReportDrop.modReports (fun q => q.evict.create p now)).sendAttempt_frame
        exact ⟨q, l, _, h⟩
      · obtain ⟨q, l, h⟩ := s.countReportDrop.sendAttempt_frame
        exact ⟨q, l, _, h⟩

/-- R44, R158: with the engine BUSY and no message waiting an event ends as it stands. -/
theorem State.settle_busy {s : State} (h : s.engine.current.isSome = true) (hm : s.management.inbox = []) :
    s.settle = s :=
  State.settle_self (State.canTake_empty hm) (State.arbiterChoice_busy h)

/-- R44, R158: with nothing waiting for the engine or the Management Unit an event ends as it stands. -/
theorem State.settle_nothing {s : State} (ho : s.engine.outbound = []) (hi : s.engine.inbound = [])
    (hu : s.engine.unwrap = []) (hm : s.management.inbox = []) : s.settle = s :=
  State.settle_self (State.canTake_empty hm) (State.arbiterChoice_empty ho hi hu)

/-- A report handed over while the engine is BUSY and no message waits ends the event. -/
theorem State.settle_handReport {s : State} (p : Report) (h : s.engine.current.isSome = true)
    (hm : s.management.inbox = []) : (s.handReport p).settle = s.handReport p := by
  obtain ⟨q, l, c, e⟩ := s.handReport_frame p
  rw [e]
  exact State.settle_busy h hm

/-- A send attempt while the engine is BUSY and no message waits ends the event. -/
theorem State.settle_sendAttempt {s : State} (h : s.engine.current.isSome = true) (hm : s.management.inbox = []) :
    s.sendAttempt.settle = s.sendAttempt := by
  obtain ⟨q, l, e⟩ := s.sendAttempt_frame
  rw [e]
  exact State.settle_busy h hm

/-! ## The end of a transaction (R99) -/

/-- R3, R6, R99: the record after the end of its transaction. -/
theorem Assoc.landed_eq (r : Assoc) : { r with transaction := none }.landed =
    if r.state = .closing ∧ r.inFlight ≤ 1 then
      { r with
        state := .vacant, selector := .bankA, bankA := emptyBank, bankB := emptyBank, inFlight := 0
        transaction := none, monitorRenewal := false, counters := Vector.replicate 8 0, quiet := 0
        renewDeadline := none }
    else { r with transaction := none, inFlight := r.inFlight - 1 } := by
  by_cases h : r.inFlight ≤ 1
  · have : r.inFlight - 1 = 0 := by omega
    simp [Assoc.landed, Assoc.settleClosing, Assoc.vacated, this, h]
  · have : r.inFlight - 1 ≠ 0 := by omega
    simp [Assoc.landed, Assoc.settleClosing, this, h]

/-- R113, R114: all that an evaluation of renewal-due does after the record of an association was written. -/
theorem State.evaluateDue_setAssoc (u : State) (a : AssocId) (l : Assoc) : (u.setAssoc a l).evaluateDue a =
    u.renewalEvaluated a l := by
  have room : ∀ s : State, s.controlRoom = decide (s.engine.outbound.length < 16 ∧ s.sendQueue.taken < 32) := by
    simp [State.controlRoom, Bool.decide_and]
  unfold State.evaluateDue State.renewalEvaluated
  simp only [State.assoc_setAssoc, if_true]
  cases l.isDue
  · simp [State.modAssoc, State.setAssoc, State.assoc]
  · cases hl : l.renewDeadline
    · simp only [State.offerRenewRequest, State.assoc_setAssoc, if_true]
      cases l.activeBank
      · simp [State.startRenewTimer, State.modAssoc, State.setAssoc, State.assoc, State.now]
      · simp only [show (u.setAssoc a l).controlRoom = u.controlRoom from rfl, room, decide_eq_true_eq]
        by_cases hr : u.engine.outbound.length < 16 ∧ u.sendQueue.taken < 32 <;>
          simp [hr, State.startRenewTimer, State.joinOutbound, State.modEngine, State.modAssoc, State.setAssoc, State.assoc,
            State.now]
    · cases l
      simp_all [State.setAssoc]

/-- R99, R103, R104: all that the end of a transaction does. -/
theorem State.endTransaction_eq {s : State} {a : AssocId} {t : Transaction} (code : Completion)
    (h : (s.assoc a).transaction = some t) : s.endTransaction a code = s.transactionEnded a t code.code := by
  have room : ∀ s : State, s.controlRoom = decide (s.engine.outbound.length < 16 ∧ s.sendQueue.taken < 32) := by
    simp [State.controlRoom, Bool.decide_and]
  have hu : s.offerAnswer MessageKind.keyOffer.code t.tag code
      (keyAnswerBody (BitVec.ofNat 8 t.target.val) t.generation) false false =
      if s.engine.outbound.length < 16 ∧ s.sendQueue.taken < 32 then
      { s with engine := { s.engine with outbound := s.engine.outbound ++
          [{ assoc := 0, plaintext := [0xA0, t.tag, 0, 4, code.code, BitVec.ofNat 8 t.target.val, 0] ++ word 2 t.generation
             restartMark := false, setsMark := false }] } }
      else s.countStation .responseDrop := by
    simp only [State.offerAnswer, room, decide_eq_true_eq]
    split
    · simp only [State.modManagement, State.joinOutbound, State.modEngine, Bool.or_false]
      rw [show answerOctets MessageKind.keyOffer.code t.tag code
        (keyAnswerBody (BitVec.ofNat 8 t.target.val) t.generation) =
          [0xA0, t.tag, 0, 4, code.code, BitVec.ofNat 8 t.target.val, 0] ++ word 2 t.generation from by
          simp [answerOctets, keyAnswerBody, MessageKind.code, beOctets, word, show List.range 2 = [0, 1] from rfl]]
    · rfl
  unfold State.endTransaction State.transactionEnded
  simp only [h, ← Assoc.landed_eq]
  rw [← hu, State.modAssoc, State.evaluateDue_setAssoc]
  congr 1
  rw [show (s.offerAnswer MessageKind.keyOffer.code t.tag code
    (keyAnswerBody (BitVec.ofNat 8 t.target.val) t.generation) false false).assoc a = s.assoc a by
      unfold State.offerAnswer; split <;> rfl]

end Sys2Proof.Machine
end

