-- ==== Sys2Proof/Laws/Messages.lean ====
section
/-! SUPPORT. What the management commands come to: the octets of a message and how they are read back, the checks of R159 on
a message that a command spells, the answer given at a taking, and a message that is taken at once. -/

namespace Sys2Proof.Machine

/-! ## Octets -/

/-- A 2-octet field as a number. -/
theorem toNat_octets (x y : Byte) : (x ++ y : W16).toNat = 256 * x.toNat + y.toNat := by
  have := y.isLt
  rw [BitVec.toNat_append, ← Nat.shiftLeft_add_eq_or_of_lt (by omega), Nat.shiftLeft_eq]
  omega

@[simp] theorem length_beOctets (n v : Nat) : (beOctets n v).length = n := by simp [beOctets]

@[simp] theorem length_word (n : Nat) {w : Nat} (x : BitVec w) : (word n x).length = n := by simp [word]

/-- R177: a 2-octet field and the octets it is carried in. -/
theorem word_word16At (l : List Byte) (i : Nat) : word 2 (word16At l i) = [octetAt l i, octetAt l (i + 1)] := by
  have h1 := (octetAt l i).isLt
  have h2 := (octetAt l (i + 1)).isLt
  simp only [word16At, word, beOctets, List.range_succ, toNat_octets]
  simp
  constructor <;> apply BitVec.eq_of_toNat_eq <;> simp only [BitVec.toNat_ofNat] <;> omega

/-- R177: a 2-octet number read back from the octets it is carried in. -/
theorem word16At_word (g : W16) (l : List Byte) : word16At (word 2 g ++ l) 0 = g := by
  apply BitVec.eq_of_toNat_eq
  rw [word16At, toNat_octets]
  have := g.isLt
  simp [word, beOctets, List.range_succ, octetAt]
  omega

/-- A length below 256 in two octets. -/
theorem beOctets_two (n : Nat) (h : n < 256) : beOctets 2 n = [0, BitVec.ofNat 8 n] := by
  simp [beOctets, List.range_succ, Nat.div_eq_of_lt h]

/-! ## Messages -/

/-- 11_formats_at_the_line: the four octets before a message's body. -/
theorem messageOctets_eq (k t : Byte) (b : List Byte) :
    messageOctets k t b = [k, t, BitVec.ofNat 8 (b.length / 256), BitVec.ofNat 8 b.length] ++ b := by
  simp [messageOctets, beOctets, List.range_succ]

theorem length_messageOctets (k t : Byte) (b : List Byte) : (messageOctets k t b).length = b.length + 4 := by
  simp [messageOctets_eq]

@[simp] theorem octetAt_messageOctets_kind (k t : Byte) (b : List Byte) : octetAt (messageOctets k t b) 0 = k := by
  simp [messageOctets_eq, octetAt]

@[simp] theorem octetAt_messageOctets_tag (k t : Byte) (b : List Byte) : octetAt (messageOctets k t b) 1 = t := by
  simp [messageOctets_eq, octetAt]

theorem octetAt_messageOctets_body (k t : Byte) (b : List Byte) (i : Nat) :
    octetAt (messageOctets k t b) (4 + i) = octetAt b i := by
  rw [messageOctets_eq, Nat.add_comm]
  simp [octetAt]

theorem drop_messageOctets (k t : Byte) (b : List Byte) (n : Nat) :
    (messageOctets k t b).drop (4 + n) = b.drop n := by
  rw [messageOctets_eq, ← List.drop_drop]
  simp

/-- R159 check 1: the body length a message states is that of its body. -/
theorem length_field (k t : Byte) (b : List Byte) (h : b.length < 65536) :
    (word16At (messageOctets k t b) 2).toNat = b.length := by
  rw [word16At, toNat_octets]
  simp [messageOctets_eq, octetAt]
  omega

/-- R159 check 2: a kind is the kind of its code. -/
@[simp] theorem MessageKind.ofCode_code (k : MessageKind) : MessageKind.ofCode k.code = some k := by cases k <;> rfl

/-- R159: the checks of a message of a kind head office may send, while no restart is pending or the kind is ECHO. -/
theorem State.messageCheck_spelled (s : State) (k : MessageKind) (t : Byte) (b : List Byte) (via : Carrier)
    (hb : b.length ≤ 508) (hr : s.management.restartTakenAt = none ∨ k = .echo) :
    s.messageCheck { octets := messageOctets k.code t b, via := via } =
      if k.allowsLength b.length then .ok k else .error .badLength := by
  have h := length_field k.code t b (by omega)
  simp only [State.messageCheck, h, length_messageOctets, octetAt_messageOctets_kind, MessageKind.ofCode_code]
  rw [if_neg (by simp; omega), if_neg (by rcases hr with hr | hr <;> simp [hr])]
  simp

/-- R159 check 1: a message of more than 512 octets. -/
theorem State.messageCheck_long (s : State) (k t : Byte) (b : List Byte) (via : Carrier) (hb : 508 < b.length) :
    s.messageCheck { octets := messageOctets k t b, via := via } = .error .badLength := by
  simp only [State.messageCheck, length_messageOctets]
  rw [if_pos (by omega)]

/-! ## Answers -/

/-- R160: an answer without a body. -/
theorem answerOctets_nil (k t : Byte) (c : Completion) : answerOctets k t c [] = [k + 0x80, t, 0, 0, c.code] := by
  simp [answerOctets, beOctets, List.range_succ]

/-- R160: an answer with a body of fewer than 256 octets. -/
theorem answerOctets_short (k t : Byte) (c : Completion) (b : List Byte) (h : b.length < 256) :
    answerOctets k t c b = [k + 0x80, t, 0, BitVec.ofNat 8 b.length, c.code] ++ b := by
  simp [answerOctets, beOctets_two _ h]

/-- R158, R160: an answer given at a taking joins the Outbound Work Queue or is counted RESPONSE_DROP. -/
theorem State.offerAnswer_taking (s : State) (k t : Byte) (c : Completion) (b : List Byte) (m : Bool) :
    s.offerAnswer k t c b true m = s.answeredWith (answerOctets k t c b) m := by
  have e : (s.engine.outbound.length < 16 ∧ s.sendQueue.taken < 32) ↔ s.controlRoom = true := by
    simp [State.controlRoom]
  simp only [State.offerAnswer, State.answeredWith, e]
  split <;> simp [State.joinOutbound, State.modManagement, State.modEngine]

@[simp] theorem State.answeredWith_current (s : State) (o : List Byte) (m : Bool) :
    (s.answeredWith o m).engine.current = s.engine.current := by
  simp only [State.answeredWith]
  split <;> simp

@[simp] theorem State.answeredWith_inbox (s : State) (o : List Byte) (m : Bool) :
    (s.answeredWith o m).management.inbox = s.management.inbox := by
  simp only [State.answeredWith]
  split <;> simp

/-! ## A message taken at once -/

/-- R158: with the engine BUSY, the inbox empty and no answer outstanding a message that arrives is taken at once, and the
event ends with its taking. -/
theorem State.receiveMessage_taken {s : State} {m : ControlMessage} (h : s.Listening)
    (hk : (s.takeMessage m).engine.current = s.engine.current) (hi : (s.takeMessage m).management.inbox = []) :
    s.receiveMessage m = s.takeMessage m := by
  obtain ⟨⟨_, h2, h3⟩, _, h4⟩ := h
  let q : State := { s with management := { s.management with inbox := [m] } }
  have e : s.joinInbox m = q := by simp [q, State.joinInbox, h3, State.modManagement]
  have e2 : q.takeHead = s.takeMessage m := by
    simp only [q, State.takeHead]
    congr 1
    show ({ s with management := { s.management with inbox := [] } } : State) = s
    rw [← h3]
  have e3 : q.arbiterChoice = none := State.arbiterChoice_busy h2
  have e4 : q.canTake = true := by simp [q, State.canTake, h4]
  have e5 : (s.takeMessage m).settle = s.takeMessage m :=
    State.settle_self (State.canTake_empty hi) (State.arbiterChoice_busy (by rw [hk]; exact h2))
  have key : ∀ n, 0 < n → (s.takeMessage m).settleWith n = s.takeMessage m := by
    intro n hn
    obtain ⟨n, rfl⟩ : ∃ k, n = k + 1 := ⟨n - 1, by omega⟩
    rw [State.settleWith, State.canTake_empty hi, State.arbiterChoice_busy (by rw [hk]; exact h2)]
    simp
  have hf : q.settleFuel = (q.settleFuel - 1) + 1 := by
    have : 1 ≤ q.settleFuel := by unfold State.settleFuel; omega
    omega
  rw [State.receiveMessage, e, State.settle, hf, State.settleWith, if_pos e4, e3]
  simp only [e2]
  exact key _ (by unfold State.settleFuel; omega)

/-- R158, R160: a command whose message is taken at once and answered at the taking. -/
theorem State.event_answered {s t : State} {m : ControlMessage} {o : List Byte} {rm : Bool} (h : s.Listening)
    (e : s.takeMessage m = t.answeredWith o rm) (hk : t.engine.current = s.engine.current)
    (hi : t.management.inbox = s.management.inbox) :
    s.messageEvent m = .next (t.answeredWith o rm) := by
  have hb := h.busy
  simp only [State.messageEvent, State.event, State.hears, h.management, hb.running, beq_self_eq_true, Bool.and_self,
    if_true]
  rw [State.receiveMessage_taken h, e]
  · rw [e, State.answeredWith_current, hk]
  · rw [e, State.answeredWith_inbox, hi, hb.inbox]

/-- R158, R159: the taking of a message of a kind head office may send, with a body it allows. -/
theorem State.takeMessage_spelled {s : State} (k : MessageKind) (t : Byte) (b : List Byte) (via : Carrier)
    (hb : b.length ≤ 508) (hr : s.management.restartTakenAt = none) (ha : k.allowsLength b.length = true) :
    s.takeMessage { octets := messageOctets k.code t b, via := via } =
      s.handleMessage { octets := messageOctets k.code t b, via := via } k := by
  simp only [State.takeMessage, State.messageCheck_spelled s k t b via hb (.inl hr), ha, if_true]

end Sys2Proof.Machine
end

