-- ==== Sys2Proof/Laws/PerInstr.lean ====
section
/-! SUPPORT. The per-instruction family TableRow: a well-formed command that spells a control message spells one that a
trunk frame can carry. -/

namespace Sys2Proof.Laws

open Sys2Proof.Machine

/-- R70, R157: a well-formed command's message is at most 1518 octets, from a carrier whose sequence is not 0. -/
def TableRow.Statement (i : Instr) : Prop :=
  i.wellFormed = true → ∀ m, messageOf i = some m → m.octets.length ≤ 1518 ∧ m.via.sequence ≠ 0

/-- A message that fits, of a carrier that is well formed. -/
theorem fits_of_messageFits {m : ControlMessage} (h : messageFits m = true) :
    m.octets.length ≤ 1518 ∧ m.via.sequence ≠ 0 := by
  simp only [messageFits, Carrier.wellFormed, Bool.and_eq_true, decide_eq_true_eq, bne_iff_ne] at h
  exact ⟨h.2, h.1⟩

theorem TableRow.shopFrameArrival (octets : List Byte) (errorMarked : Bool) :
    TableRow.Statement (.shopFrameArrival octets errorMarked) := by
  intro _ m h
  cases h

theorem TableRow.shopTransmitStart : TableRow.Statement .shopTransmitStart := by
  intro _ m h
  cases h

theorem TableRow.shopTransmissionEnd (macReady : Bool) : TableRow.Statement (.shopTransmissionEnd macReady) := by
  intro _ m h
  cases h

theorem TableRow.trunkFramingDrop (octet : Byte) : TableRow.Statement (.trunkFramingDrop octet) := by
  intro _ m h
  cases h

theorem TableRow.trunkFrameArrival : TableRow.Statement .trunkFrameArrival := by
  intro _ m h
  cases h

theorem TableRow.outboundCompletion : TableRow.Statement .outboundCompletion := by
  intro _ m h
  cases h

theorem TableRow.inboundCompletion : TableRow.Statement .inboundCompletion := by
  intro _ m h
  cases h

theorem TableRow.unwrapCompletion : TableRow.Statement .unwrapCompletion := by
  intro _ m h
  cases h

theorem TableRow.controlMessageInvalid (via : Carrier) (octets : List Byte) :
    TableRow.Statement (.controlMessageInvalid via octets) := by
  intro h m hm
  cases hm
  exact fits_of_messageFits (Bool.and_eq_true_iff.1 h).1

theorem TableRow.echo (via : Carrier) (tag : Byte) (body : List Byte) : TableRow.Statement (.echo via tag body) := by
  intro h m hm
  cases hm
  exact fits_of_messageFits h

theorem TableRow.tableRead (via : Carrier) (tag table first count : Byte) :
    TableRow.Statement (.tableRead via tag table first count) := by
  intro h m hm
  cases hm
  exact fits_of_messageFits h

theorem TableRow.tableWriteFlow (via : Carrier) (tag first count : Byte) (entries : List Byte) :
    TableRow.Statement (.tableWriteFlow via tag first count entries) := by
  intro h m hm
  cases hm
  exact fits_of_messageFits h

theorem TableRow.tableWriteAssocConfig (via : Carrier) (tag first count : Byte) (entries : List Byte) :
    TableRow.Statement (.tableWriteAssocConfig via tag first count entries) := by
  intro h m hm
  cases hm
  exact fits_of_messageFits h

theorem TableRow.tableWriteMonitor (via : Carrier) (tag first count : Byte) (entries : List Byte) :
    TableRow.Statement (.tableWriteMonitor via tag first count entries) := by
  intro h m hm
  cases hm
  exact fits_of_messageFits h

theorem TableRow.tableWriteSettings (via : Carrier) (tag first count : Byte) (entries : List Byte) :
    TableRow.Statement (.tableWriteSettings via tag first count entries) := by
  intro h m hm
  cases hm
  exact fits_of_messageFits h

theorem TableRow.assocOpen (via : Carrier) (tag assoc : Byte) : TableRow.Statement (.assocOpen via tag assoc) := by
  intro h m hm
  cases hm
  exact ⟨by simp [oneOctetMessage, length_messageOctets],
    (by simpa [Instr.wellFormed, Carrier.wellFormed] using h : via.sequence ≠ 0)⟩

theorem TableRow.assocClose (via : Carrier) (tag assoc : Byte) : TableRow.Statement (.assocClose via tag assoc) := by
  intro h m hm
  cases hm
  exact ⟨by simp [oneOctetMessage, length_messageOctets],
    (by simpa [Instr.wellFormed, Carrier.wellFormed] using h : via.sequence ≠ 0)⟩

theorem TableRow.assocResume (via : Carrier) (tag assoc : Byte) :
    TableRow.Statement (.assocResume via tag assoc) := by
  intro h m hm
  cases hm
  exact ⟨by simp [oneOctetMessage, length_messageOctets],
    (by simpa [Instr.wellFormed, Carrier.wellFormed] using h : via.sequence ≠ 0)⟩

theorem TableRow.keyOffer (via : Carrier) (tag assoc : Byte) (generation : W16) (wrapped : Key)
    (wrapCheck : BitVec 64) :
    TableRow.Statement (.keyOffer via tag assoc generation wrapped wrapCheck) := by
  intro h m hm
  cases hm
  exact ⟨by simp [keyOfferMessage, length_messageOctets],
    (by simpa [Instr.wellFormed, Carrier.wellFormed] using h : via.sequence ≠ 0)⟩

theorem TableRow.keySwitch (via : Carrier) (tag assoc : Byte) (generation : W16) :
    TableRow.Statement (.keySwitch via tag assoc generation) := by
  intro h m hm
  cases hm
  exact ⟨by simp [keyMessage, keyAnswerBody, length_messageOctets],
    (by simpa [Instr.wellFormed, Carrier.wellFormed] using h : via.sequence ≠ 0)⟩

theorem TableRow.keyWithdraw (via : Carrier) (tag assoc : Byte) (generation : W16) :
    TableRow.Statement (.keyWithdraw via tag assoc generation) := by
  intro h m hm
  cases hm
  exact ⟨by simp [keyMessage, keyAnswerBody, length_messageOctets],
    (by simpa [Instr.wellFormed, Carrier.wellFormed] using h : via.sequence ≠ 0)⟩

theorem TableRow.monitorClear (via : Carrier) (tag monitor : Byte) :
    TableRow.Statement (.monitorClear via tag monitor) := by
  intro h m hm
  cases hm
  exact ⟨by simp [oneOctetMessage, length_messageOctets],
    (by simpa [Instr.wellFormed, Carrier.wellFormed] using h : via.sequence ≠ 0)⟩

theorem TableRow.reportAck (via : Carrier) (tag : Byte) (numbers : List W16) :
    TableRow.Statement (.reportAck via tag numbers) := by
  intro h m hm
  cases hm
  exact fits_of_messageFits h

theorem TableRow.serviceSet (via : Carrier) (tag value : Byte) : TableRow.Statement (.serviceSet via tag value) := by
  intro h m hm
  cases hm
  exact ⟨by simp [oneOctetMessage, length_messageOctets],
    (by simpa [Instr.wellFormed, Carrier.wellFormed] using h : via.sequence ≠ 0)⟩

theorem TableRow.restart (via : Carrier) (tag : Byte) : TableRow.Statement (.restart via tag) := by
  intro h m hm
  cases hm
  exact ⟨by simp [restartMessage, length_messageOctets],
    (by simpa [Instr.wellFormed, Carrier.wellFormed] using h : via.sequence ≠ 0)⟩

theorem TableRow.restartLimitExpiry : TableRow.Statement .restartLimitExpiry := by
  intro _ m h
  cases h

theorem TableRow.resetCondition (condition : ResetCondition) (present : Bool) :
    TableRow.Statement (.resetCondition condition present) := by
  intro _ m h
  cases h

theorem TableRow.startUp (straps : BitVec 3) (pace : Pace) (outcome : StartUpOutcome) :
    TableRow.Statement (.startUp straps pace outcome) := by
  intro _ m h
  cases h

theorem TableRow.timeBaseSecond : TableRow.Statement .timeBaseSecond := by
  intro _ m h
  cases h

theorem TableRow.drainDeadlineExpiry (assoc : AssocId) (bank : BankId) :
    TableRow.Statement (.drainDeadlineExpiry assoc bank) := by
  intro _ m h
  cases h

theorem TableRow.renewRequestTimerExpiry (assoc : AssocId) : TableRow.Statement (.renewRequestTimerExpiry assoc) := by
  intro _ m h
  cases h

theorem TableRow.startupInhibitExpiry (monitor : MonitorId) : TableRow.Statement (.startupInhibitExpiry monitor) := by
  intro _ m h
  cases h

theorem TableRow.monitorSample (monitor : MonitorId) : TableRow.Statement (.monitorSample monitor) := by
  intro _ m h
  cases h

theorem TableRow.ackDeadlineExpiry (number : W16) : TableRow.Statement (.ackDeadlineExpiry number) := by
  intro _ m h
  cases h

theorem TableRow.pacingTimerExpiry : TableRow.Statement .pacingTimerExpiry := by
  intro _ m h
  cases h

theorem TableRow.retryTimerExpiry : TableRow.Statement .retryTimerExpiry := by
  intro _ m h
  cases h

theorem TableRow.lineQuiet : TableRow.Statement .lineQuiet := by
  intro _ m h
  cases h

theorem TableRow.openGap : TableRow.Statement .openGap := by
  intro _ m h
  cases h

theorem TableRow.claimByOtherStation : TableRow.Statement .claimByOtherStation := by
  intro _ m h
  cases h

theorem TableRow.lineWatchGuard (octet : Byte) : TableRow.Statement (.lineWatchGuard octet) := by
  intro _ m h
  cases h

theorem TableRow.claimStart (readsLow : Bool) : TableRow.Statement (.claimStart readsLow) := by
  intro _ m h
  cases h

theorem TableRow.claimLost (bit : Fin 4) : TableRow.Statement (.claimLost bit) := by
  intro _ m h
  cases h

theorem TableRow.claimWon : TableRow.Statement .claimWon := by
  intro _ m h
  cases h

theorem TableRow.frameSent : TableRow.Statement .frameSent := by
  intro _ m h
  cases h

theorem TableRow.clash : TableRow.Statement .clash := by
  intro _ m h
  cases h

theorem TableRow.burstRelease : TableRow.Statement .burstRelease := by
  intro _ m h
  cases h

theorem TableRow.standoffExpiry : TableRow.Statement .standoffExpiry := by
  intro _ m h
  cases h

theorem TableRow.paceHold (point : HoldPoint) : TableRow.Statement (.paceHold point) := by
  intro _ m h
  cases h

theorem TableRow.paceGo : TableRow.Statement .paceGo := by
  intro _ m h
  cases h

theorem TableRow.trunkClockLoss : TableRow.Statement .trunkClockLoss := by
  intro _ m h
  cases h

theorem TableRow.trunkClockReturn : TableRow.Statement .trunkClockReturn := by
  intro _ m h
  cases h

theorem TableRow.huntDelimiterFound : TableRow.Statement .huntDelimiterFound := by
  intro _ m h
  cases h

theorem TableRow.trunkReceiveOctet (octet : Byte) : TableRow.Statement (.trunkReceiveOctet octet) := by
  intro _ m h
  cases h

theorem TableRow.busyPeriodEnd : TableRow.Statement .busyPeriodEnd := by
  intro _ m h
  cases h

theorem TableRow.lineWatchOctet (input : WatchInput) : TableRow.Statement (.lineWatchOctet input) := by
  intro _ m h
  cases h

theorem TableRow.tableWriteBadTable (via : Carrier) (tag table first count : Byte) (entries : List Byte) :
    TableRow.Statement (.tableWriteBadTable via tag table first count entries) := by
  intro h m hm
  cases hm
  exact fits_of_messageFits (Bool.and_eq_true_iff.1 h).1

end Sys2Proof.Laws
end

