-- ==== Sys2Proof/Laws/Queues.lean ====
section
/-! SUPPORT. The places of the Trunk Send Queue (R79 to R82): what a reservation, a filling, a freeing and a leaving do to
the numbers the controller keeps. -/

namespace Sys2Proof.Machine

/-- R79: the places of URGENT and BULK are among the places taken. -/
theorem SendQueue.takenTraffic_le (q : SendQueue) : q.takenTraffic ≤ q.taken := by
  unfold SendQueue.takenTraffic SendQueue.taken
  have := List.length_filter_le (fun p : ReservedPlace => p.place != .control) q.reserved
  omega

/-- R50, R79: a reservation takes one place. -/
theorem SendQueue.taken_reserve (q : SendQueue) (c : TrafficClass) (m : Bool) :
    (q.reserve c m).taken = q.taken + 1 := by
  simp [SendQueue.taken, SendQueue.reserve]; omega

/-- R50, R79: a reservation takes one of the places of URGENT and BULK, unless it is CONTROL's. -/
theorem SendQueue.takenTraffic_reserve (q : SendQueue) (c : TrafficClass) (m : Bool) :
    (q.reserve c m).takenTraffic = q.takenTraffic + (if c = .control then 0 else 1) := by
  cases c <;> simp [SendQueue.takenTraffic, SendQueue.reserve, List.filter_append] <;> omega

/-- R79: a place free for a class can be reserved within law 7. -/
theorem SendQueue.reserve_lawful {q : SendQueue} {c : TrafficClass} (m : Bool) (h : q.placeFree c = true)
    (ht : q.takenTraffic ≤ 28) : (q.reserve c m).taken ≤ 32 ∧ (q.reserve c m).takenTraffic ≤ 28 := by
  rw [SendQueue.taken_reserve, SendQueue.takenTraffic_reserve]
  cases c <;> simp [SendQueue.placeFree] at h ⊢ <;> omega

/-- R80: a filling takes no further place. -/
theorem SendQueue.taken_fill (q : SendQueue) (c : TrafficClass) (f : SealedFrame) : (q.fill c f).taken = q.taken := by
  unfold SendQueue.fill
  split
  · rename_i h
    obtain ⟨p, hp, hc⟩ := List.any_eq_true.mp h
    have hl := List.length_eraseP_of_mem (p := fun p : ReservedPlace => p.place == c) hp hc
    have := List.length_pos_of_mem hp
    cases c <;>
      simp [SendQueue.taken, SendQueue.unreserve, SendQueue.setFilled, SendQueue.filled] at hl ⊢ <;> omega
  · rfl

/-- R80, R82: freeing a place and the leaving of a frame take none. -/
theorem SendQueue.taken_unreserve_le (q : SendQueue) (c : TrafficClass) : (q.unreserve c).taken ≤ q.taken := by
  have := (List.eraseP_sublist (p := fun p : ReservedPlace => p.place == c) (l := q.reserved)).length_le
  simp [SendQueue.taken, SendQueue.unreserve]; omega

/-- R82: the leaving of a frame takes no place. -/
theorem SendQueue.taken_leave_le (q : SendQueue) (c : TrafficClass) : (q.leave c).taken ≤ q.taken := by
  cases c <;> simp [SendQueue.taken, SendQueue.leave, SendQueue.setFilled, SendQueue.filled]

/-- R81: the class chosen holds a frame, and every class before it holds none. -/
theorem SendQueue.nextClass_spec (q : SendQueue) (c : TrafficClass) :
    q.nextClass = some c ↔
      (c = .control ∧ q.control ≠ []) ∨ (c = .urgent ∧ q.control = [] ∧ q.urgent ≠ []) ∨
        (c = .bulk ∧ q.control = [] ∧ q.urgent = [] ∧ q.bulk ≠ []) := by
  unfold SendQueue.nextClass
  split
  · cases c <;> simp_all
  · split
    · cases c <;> simp_all
    · split <;> cases c <;> simp_all

end Sys2Proof.Machine
end

