-- ==== Sys2Proof/Laws/Timers.lean ====
section
/-! SUPPORT. What the lists of timers hold, in the words of Safety: which deadlines no count may pass, which expiry is due,
and when the millisecond count can come to a reading. -/

namespace Sys2Proof.Machine

/-- A timer of `timersOf` is the one named, under its condition and with its deadline. -/
theorem mem_timersOf {c : Instr} {runs : Bool} {d : Option Nat} {x : Timer} :
    x ∈ timersOf c runs d ↔ runs = true ∧ x.1 = c ∧ d = some x.2 := by
  obtain ⟨i, n⟩ := x
  unfold timersOf
  cases runs <;> cases d <;> simp [Prod.ext_iff, eq_comm]

/-- R125: the states in which a period runs. -/
theorem MonitorState.samples_iff (w : MonitorState) : w.samples = true ↔ w ≠ .off ∧ w ≠ .inhibited := by
  cases w <;> simp [MonitorState.samples]

/-- R172: the timers on the millisecond count. -/
theorem State.mem_millisecondTimers {s : State} {c : Instr} {d : Nat} :
    (c, d) ∈ s.millisecondTimers ↔
      (c = .restartLimitExpiry ∧ ∃ t, s.management.restartTakenAt = some t ∧ t + 2000 = d) ∨
        (c = .standoffExpiry ∧ s.access.state = .standoff ∧ s.access.standoffDeadline = some d) ∨
        (∃ x ∈ s.reports.records, c = .ackDeadlineExpiry x.number ∧ x.state = .inFlight ∧ x.ackDeadline = some d) ∨
        (c = .pacingTimerExpiry ∧ s.reports.pacingDeadline = some d) ∨
        (c = .retryTimerExpiry ∧ s.reports.retryDeadline = some d) := by
  simp [State.millisecondTimers, mem_timersOf, State.restartDeadline, and_left_comm]

/-- R172: the timers on the seconds count. -/
theorem State.mem_secondsTimers {s : State} {c : Instr} {d : Nat} :
    (c, d) ∈ s.secondsTimers ↔
      (c = .timeBaseSecond ∧ s.time.storeWaits = true ∧ s.now = d) ∨
      (∃ a b, c = .drainDeadlineExpiry a b ∧ (s.bank a b).state = .draining ∧ (s.bank a b).drainDeadline = some d) ∨
        (∃ a, c = .renewRequestTimerExpiry a ∧ (s.assoc a).renewDeadline = some d) ∨
        (∃ m, c = .startupInhibitExpiry m ∧ (s.monitor m).state = .inhibited ∧
          (s.monitor m).config.startupInhibit.toNat = d) ∨
        (∃ m, c = .monitorSample m ∧ (s.monitor m).state ≠ .off ∧ (s.monitor m).state ≠ .inhibited ∧
          (s.monitor m).nextSample = some d) := by
  have bank (a : AssocId) : ((c = .drainDeadlineExpiry a .bankA ∧ (s.bank a .bankA).state = .draining ∧
      (s.bank a .bankA).drainDeadline = some d) ∨ (c = .drainDeadlineExpiry a .bankB ∧
      (s.bank a .bankB).state = .draining ∧ (s.bank a .bankB).drainDeadline = some d)) ↔
      ∃ b, c = .drainDeadlineExpiry a b ∧ (s.bank a b).state = .draining ∧ (s.bank a b).drainDeadline = some d :=
    ⟨fun h => h.elim (⟨_, ·⟩) (⟨_, ·⟩), fun ⟨b, h⟩ => by cases b <;> simp_all⟩
  simp only [State.secondsTimers, State.assocTimers, State.monitorTimers, List.mem_append, List.mem_flatMap,
    List.mem_finRange, true_and, mem_timersOf, MonitorState.samples_iff, beq_iff_eq, Option.some.injEq]
  rw [show (s.time.storeWaits = true ∧ c = .timeBaseSecond ∧ s.now = d) ↔
    (c = .timeBaseSecond ∧ s.time.storeWaits = true ∧ s.now = d) by tauto]
  refine or_congr Iff.rfl ?_
  constructor
  · rintro (⟨a, (⟨h, e, f⟩ | ⟨h, e, f⟩) | ⟨e, f⟩⟩ | ⟨m, ⟨h, e, f⟩ | ⟨⟨h, h'⟩, e, f⟩⟩)
    · exact .inl ⟨a, .bankA, e, h, f⟩
    · exact .inl ⟨a, .bankB, e, h, f⟩
    · exact .inr (.inl ⟨a, e, f⟩)
    · exact .inr (.inr (.inl ⟨m, e, h, f⟩))
    · exact .inr (.inr (.inr ⟨m, e, h, h', f⟩))
  · rintro (⟨a, b, e, h, f⟩ | ⟨a, e, f⟩ | ⟨m, e, h, f⟩ | ⟨m, e, h, h', f⟩)
    · cases b
      · exact .inl ⟨a, .inl (.inl ⟨h, e, f⟩)⟩
      · exact .inl ⟨a, .inl (.inr ⟨h, e, f⟩)⟩
    · exact .inl ⟨a, .inr ⟨e, f⟩⟩
    · exact .inr ⟨m, .inl ⟨h, e, f⟩⟩
    · exact .inr ⟨m, .inr ⟨⟨h, h'⟩, e, f⟩⟩

/-- R172: a timer that runs with a deadline below a reading is one whose deadline the reading passes. -/
theorem State.passed_iff {s : State} {m n : Nat} {c : Instr} :
    s.Passed m n c ↔ (∃ d, (c, d) ∈ s.millisecondTimers ∧ d < m) ∨ ∃ d, (c, d) ∈ s.secondsTimers ∧ d < n := by
  simp only [State.mem_millisecondTimers, State.mem_secondsTimers]
  constructor
  · intro h
    cases c with
    | timeBaseSecond => exact .inr ⟨_, .inl ⟨rfl, h.1, rfl⟩, h.2⟩
    | drainDeadlineExpiry a b => exact .inr ⟨_, .inr (.inl ⟨a, b, rfl, h.1, h.2.choose_spec.1⟩), h.2.choose_spec.2⟩
    | renewRequestTimerExpiry a => exact .inr ⟨_, .inr (.inr (.inl ⟨a, rfl, h.choose_spec.1⟩)), h.choose_spec.2⟩
    | startupInhibitExpiry m => exact .inr ⟨_, .inr (.inr (.inr (.inl ⟨m, rfl, h.1, rfl⟩))), h.2⟩
    | monitorSample m =>
      exact .inr ⟨_, .inr (.inr (.inr (.inr ⟨m, rfl, h.1, h.2.1, h.2.2.choose_spec.1⟩))), h.2.2.choose_spec.2⟩
    | restartLimitExpiry => exact .inl ⟨_, .inl ⟨rfl, _, h.choose_spec.1, rfl⟩, h.choose_spec.2⟩
    | standoffExpiry => exact .inl ⟨_, .inr (.inl ⟨rfl, h.1, h.2.choose_spec.1⟩), h.2.choose_spec.2⟩
    | ackDeadlineExpiry n =>
      obtain ⟨x, hx, rfl, hf, t, ht, hl⟩ := h
      exact .inl ⟨t, .inr (.inr (.inl ⟨x, hx, rfl, hf, ht⟩)), hl⟩
    | pacingTimerExpiry => exact .inl ⟨_, .inr (.inr (.inr (.inl ⟨rfl, h.choose_spec.1⟩))), h.choose_spec.2⟩
    | retryTimerExpiry => exact .inl ⟨_, .inr (.inr (.inr (.inr ⟨rfl, h.choose_spec.1⟩))), h.choose_spec.2⟩
    | _ => exact h.elim
  · rintro (⟨d, (⟨rfl, t, h, rfl⟩ | ⟨rfl, h⟩ | ⟨x, hx, rfl, hf, ht⟩ | ⟨rfl, h⟩ | ⟨rfl, h⟩), hl⟩ |
      ⟨d, (⟨rfl, h, rfl⟩ | ⟨a, b, rfl, h, hd⟩ | ⟨a, rfl, h⟩ | ⟨k, rfl, h, rfl⟩ | ⟨k, rfl, h, h', hd⟩), hl⟩)
    · exact ⟨t, h, hl⟩
    · exact ⟨h.1, d, h.2, hl⟩
    · exact ⟨x, hx, rfl, hf, d, ht, hl⟩
    · exact ⟨d, h, hl⟩
    · exact ⟨d, h, hl⟩
    · exact ⟨h, hl⟩
    · exact ⟨h, d, hd, hl⟩
    · exact ⟨d, h, hl⟩
    · exact ⟨h, hl⟩
    · exact ⟨h, h', d, hd, hl⟩

/-- R172: the test that no deadline is passed, in the words of Safety. -/
theorem State.passesNone_iff {s : State} {m n : Nat} : s.passesNone m n = true ↔ ∀ c, ¬s.Passed m n c := by
  simp only [State.passesNone, Bool.and_eq_true, List.all_eq_true, decide_eq_true_eq, State.passed_iff]
  constructor
  · rintro ⟨h, k⟩ c (⟨d, hd, hl⟩ | ⟨d, hd, hl⟩)
    · exact absurd (h _ hd) (by simpa using hl)
    · exact absurd (k _ hd) (by simpa using hl)
  · intro h
    exact ⟨fun ⟨c, d⟩ hd => Nat.not_lt.1 fun hl => h c (.inl ⟨d, hd, hl⟩),
      fun ⟨c, d⟩ hd => Nat.not_lt.1 fun hl => h c (.inr ⟨d, hd, hl⟩)⟩

/-- R171, R172: the millisecond count can come to a reading that nothing obstructs. -/
theorem State.mayReach_of_unobstructed {s : State} {t : Nat} (h : s.Unobstructed t) : s.mayReach t = true := by
  simp only [State.mayReach, Bool.or_eq_true, Bool.and_eq_true, decide_eq_true_eq, beq_iff_eq, State.passesNone_iff]
  exact h

/-- R171, R172: the test that the seconds count can increase, in the words of Safety. -/
theorem State.mayTurn_iff {s : State} : s.mayTurn = true ↔ s.MayTurn := by
  simp [State.mayTurn, State.MayTurn, State.passesNone_iff, State.now]

/-- R172: a timer on the seconds count can expire exactly where the count can come to its deadline. -/
theorem State.secondExpires_iff {s : State} {t : Nat} : s.secondExpires (some t) = true ↔ s.UnobstructedSecond t := by
  simp only [State.secondExpires, Bool.or_eq_true, Bool.and_eq_true, decide_eq_true_eq, State.mayTurn_iff]
  exact Iff.rfl

/-- R171: the state that an event on the millisecond count comes to, in the words of Safety. -/
theorem State.reach_eq_comesTo (s : State) (t : Nat) : s.reach t = s.comesTo t := rfl

/-- R171, R172: the state that an event on the seconds count comes to, in the words of Safety. -/
theorem State.reachSecond_eq_comesToSecond (s : State) (t : Nat) : s.reachSecond (some t) = s.comesToSecond t := rfl

/-- R172: the expiry that comes next is due, and there is one exactly when some timer has come to its deadline. -/
theorem State.dueExpiry_spec (s : State) :
    (∀ c, s.dueExpiry = some c → s.Due c) ∧ (s.dueExpiry = none ↔ ∀ c, ¬s.Due c) := by
  have mem (x : Timer) : x ∈ s.dueTimers ↔
      (x ∈ s.millisecondTimers ∧ x.2 ≤ s.time.milliseconds) ∨ (x ∈ s.secondsTimers ∧ x.2 ≤ s.now) := by
    simp [State.dueTimers]
  have due (c : Instr) : s.Due c ↔ ∃ d, (c, d) ∈ s.dueTimers := by
    simp only [State.Due, State.passed_iff, mem, Nat.lt_succ_iff, State.now]
    aesop
  constructor
  · intro c h
    obtain ⟨x, hx, rfl⟩ := Option.map_eq_some_iff.1 h
    exact (due _).2 ⟨x.2, List.mem_of_getElem? hx⟩
  · simp only [due, not_exists]
    have none_iff : s.dueExpiry = none ↔ s.dueTimers = [] := by
      rw [State.dueExpiry, Option.map_eq_none_iff, List.getElem?_eq_none_iff, ← List.length_eq_zero_iff]
      constructor
      · intro h
        by_contra k
        exact absurd (Nat.mod_lt _ (Nat.pos_of_ne_zero k)) (Nat.not_lt.2 h)
      · intro h; simp [h]
    rw [none_iff, List.eq_nil_iff_forall_not_mem]
    exact ⟨fun h c d => h _, fun h ⟨c, d⟩ => h c d⟩

end Sys2Proof.Machine
end

