-- ==== Sys2Proof/Tests/Slice0.lean ====
section
/-! SUPPORT. Tests: the checks of `Instr.wellFormed`, the spec's worked examples, one step of each kind of command, and for
each obligation with hypotheses a state and operands that meet them. -/

namespace Sys2Proof.Tests

-- one theorem at a time, so that the file compiles in bounded memory
set_option Elab.async false

open Sys2Proof.Machine

/-! ## Small states -/

/-- A carrier of a control message. -/
def via : Carrier := { bank := .bankA, generation := 1, sequence := 5 }

/-- A part that runs, otherwise as after reset. -/
def running : State := { State.reset with power := { State.reset.power with running := true } }

/-- An inbound item of association 3. -/
def item : InItem where
  assoc := 3
  bank := .bankA
  generation := 1
  sequence := 1
  header := []
  ciphertext := []
  tag := []

/-- A running part with association 0 LIVE, whose engine is BUSY. -/
def busy : State :=
  { running with
    assocs := running.assocs.set 0 { defaultAssoc 0 with state := .live, bankA := installedBank .active 1 0 }
    engine := { running.engine with current := some (.inbound item [] []) } }

/-- A running part with its service ON. -/
def serving : State := { busy with management := { busy.management with serviceOn := true } }

/-- An association in a state, with generation 1 ACTIVE in bank A. -/
def keyed (st : AssocState) : Assoc := { defaultAssoc 3 with state := st, bankA := installedBank .active 1 0 }

/-- The part with the record of association 3. -/
def holding (r : Assoc) : State := { busy with assocs := busy.assocs.set 3 r }

/-- The part with the Trunk Access Controller's record. -/
def atLine (x : Access) : State := { busy with access := x }

/-- The part with the Trunk Receiver's record. -/
def staged (w : FramingState) (l : List Byte) : State := { busy with receiver := { state := w, staging := l } }

/-- The part with the Fault Report Queue's record. -/
def reporting (q : ReportQueue) : State := { busy with reports := q }

/-- The part at a time. -/
def atTime (s : State) (milliseconds : Nat) (seconds : W32) : State :=
  { s with time := { milliseconds := milliseconds, seconds := seconds, storeWaits := false } }

/-- The part with the record of monitor 3. -/
def watching (r : Monitor) : State := { busy with monitors := busy.monitors.set 3 r }

/-- The state a command leads to. -/
def after (c : Instr) (s : State) : State :=
  match exec c s with
  | .next t => t
  | .fault _ => s
  | .refused _ => s

/-- The outbound items' plaintexts that a command adds. -/
def answers (c : Instr) (s : State) : List (List Byte) := (after c s).engine.outbound.map (fun i => i.plaintext)

theorem busy_isBusy : busy.Busy := ⟨rfl, rfl, rfl⟩
theorem busy_isAttentive : busy.Attentive := ⟨⟨⟨rfl, rfl, rfl⟩, rfl, rfl⟩, rfl⟩
theorem holding_isAttentive (r : Assoc) : (holding r).Attentive := ⟨⟨⟨rfl, rfl, rfl⟩, rfl, rfl⟩, rfl⟩
theorem busy_isClocked : busy.Clocked := ⟨rfl, rfl⟩
theorem running_nothingWaits : running.NothingWaits := ⟨rfl, rfl, rfl, rfl, rfl⟩

/-! ## Well-formed commands: an ill-formed term for each check -/

theorem test_wf_sequence_zero_refused : (Instr.assocOpen { via with sequence := 0 } 1 3).wellFormed = false := by decide
theorem test_wf_assocOpen : (Instr.assocOpen via 1 3).wellFormed = true := by decide
theorem test_wf_echo_too_long_refused : (Instr.echo via 1 (List.replicate 1515 0)).wellFormed = false := by decide +kernel
theorem test_wf_echo_longest : (Instr.echo via 1 (List.replicate 1514 0)).wellFormed = true := by decide +kernel
theorem test_wf_valid_message_refused : (Instr.controlMessageInvalid via [0x3F, 1, 0, 0]).wellFormed = false := by decide
theorem test_wf_short_message : (Instr.controlMessageInvalid via [0x3F, 1, 0]).wellFormed = true := by decide
theorem test_wf_writable_table_refused : (Instr.tableWriteBadTable via 1 4 0 1 []).wellFormed = false := by decide
theorem test_wf_read_only_table : (Instr.tableWriteBadTable via 1 3 0 1 []).wellFormed = true := by decide
theorem test_wf_report_number_zero_refused : (Instr.ackDeadlineExpiry 0).wellFormed = false := by decide
theorem test_wf_guard_delimiter_refused : (Instr.lineWatchGuard 0xC9).wellFormed = false := by decide
theorem test_wf_guard : (Instr.lineWatchGuard 0).wellFormed = true := by decide

/-! ## Checks at the lines -/

/-- The nine octets of the usual check of a check, "123456789". -/
def nineDigits : List Byte := [0x31, 0x32, 0x33, 0x34, 0x35, 0x36, 0x37, 0x38, 0x39]

/-- The published value for these digits of the 16-bit check with R66's generator, initial value and complement. -/
theorem test_trunkCheck_digits : trunkCheck nineDigits = 0xD64E := by decide +kernel

/-- The published value of the 32-bit Ethernet frame check for these digits, 0xCBF43926, sent 26 39 F4 CB. -/
theorem test_frameCheck_digits : frameCheckOctets nineDigits = [0x26, 0x39, 0xF4, 0xCB] := by decide +kernel

/-- 04, "Worked example: stuffing a header". -/
theorem test_stuff_header :
    stuff [0x3C, 0x09, 0x00, 0xCA, 0x00, 0x00, 0x00, 0xC9, 0x00, 0x3C] =
      [0x3C, 0x09, 0x00, 0xCA, 0xDA, 0x00, 0x00, 0x00, 0xCA, 0xD9, 0x00, 0x3C] := by decide

/-- 04, "Worked example: stuffing a header": the fields of the header as the part reads them. -/
theorem test_header_fields :
    let c : List Byte := [0x3C, 0x09, 0x00, 0xCA, 0x00, 0x00, 0x00, 0xC9, 0x00, 0x3C]
    destinationOf c = 3 ∧ frameKindOf c = 0 ∧ channelOf c = 9 ∧ generationOf c = 202 ∧ sequenceOf c = 201 ∧
      lengthOf c = 60 := by decide

/-! ## The receive window (03, "Worked sequence: the receive window") -/

/-- The window at the start: H = 1000, with 1000, 998 and 990 seen. -/
def window : Bank := { installedBank .active 1 0 with highest := 1000, seen := 0x405 }

/-- The window after completions 1 to 3. -/
def window3 : Bank := ((window.mark 1001).mark 995).mark 1005

theorem test_window_decisions :
    window.accepts 1001 = true ∧ (window.mark 1001).accepts 995 = true ∧ ((window.mark 1001).mark 995).accepts 937 = false ∧
      ((window.mark 1001).mark 995).accepts 990 = false := by decide
theorem test_window_second_copy : window3.accepts 1005 = false := by decide
theorem test_window_seen_after_third : window3.highest = 1005 ∧ window3.seen = 0x84B1 := by decide
theorem test_window_slide : (window3.mark 1100).highest = 1100 ∧ (window3.mark 1100).seen = 1 := by decide
theorem test_window_after_sixth :
    let k := (window3.mark 1100).mark 1040
    k.accepts 1036 = false ∧ k.accepts 1041 = true ∧ k.accepts 1040 = false := by decide

/-! ## Cost and wear (03, "Worked sequence: cost and wear at the hard limit") -/

/-- Association 6's bank of the worked sequence, with the given wear. -/
def worn (wear : W32) : Bank := { installedBank .active 1 0 with wear := wear, nextSequence := 40201 }

theorem test_wear_tests :
    (worn 999850).bears (frameCost 1514) 1000000 = false ∧ (worn 999850).bears (frameCost 60) 1000000 = true ∧
      (worn 999860).bears (frameCost 500) 1000000 = true ∧ (worn 999926).bears (frameCost 1000) 1000000 = false ∧
      (worn 999936).bears 64 1000000 = true ∧ (worn 999936).bears 65 1000000 = false := by decide
theorem test_wear_percent :
    { keyed .live with policy := { defaultPolicy .bulk with hardLimit := 1000000 }, bankA := worn 999936 }.wearPct = 99 := by
  decide

/-! ## The monitors (07) -/

/-- Monitor 3 of "Worked sequence: a rate monitor with hysteresis". -/
def rateConfig : MonitorConfig :=
  { defaultMonitorConfig with
    enable := true, source := .association (.counter .tagFail), sourceAssoc := 2, mode := .rate, sense := .rise
    period := 45, setLevel := 8, clearLevel := 3, persistence := 2, severity := 3, action := .renew, target := 2 }

/-- The monitor as written at second 1000, and after samples of TAG_FAIL at the given values. -/
def rateSamples (l : List W32) : Monitor :=
  (l.foldl (fun (p : Monitor × Nat) c => ((p.1.sample c p.2).1, p.2 + 45)) (restartedMonitor rateConfig 1000, 1045)).1

theorem test_rate_baseline : (rateSamples [120]).state = .clear ∧ (rateSamples [120]).baseline = true := by decide
theorem test_rate_pending : (rateSamples [120, 127]).state = .pending ∧ (rateSamples [120, 127]).lastMeasured = 9 := by decide
theorem test_rate_fires :
    (rateSamples [120, 127]).sample 135 1135 = (rateSamples [120, 127, 135], .fired 10) ∧
      (rateSamples [120, 127, 135]).state = .fired ∧ (rateSamples [120, 127, 135]).persistenceCount = 2 := by decide
theorem test_rate_stays : (rateSamples [120, 127, 135, 138]).state = .fired := by decide
theorem test_rate_clears :
    ((rateSamples [120, 127, 135, 138]).sample 140 1225).2 = .cleared 2 ∧
      (rateSamples [120, 127, 135, 138, 140]).state = .clear := by decide

/-- Monitor 12 of "Worked sequence: a falling rate after start-up". -/
def fallConfig : MonitorConfig :=
  { defaultMonitorConfig with
    enable := true, source := .association (.counter .deciphered), sourceAssoc := 3, mode := .rate, sense := .fall
    period := 60, setLevel := 5, clearLevel := 20, persistence := 3, severity := 3, startupInhibit := 120 }

/-- The monitor from its inhibit's expiry at second 120 on, after samples at the given values. -/
def fallSamples (l : List W32) : Monitor :=
  (l.foldl (fun (p : Monitor × Nat) c => ((p.1.sample c p.2).1, p.2 + 60))
    ({ restartedMonitor fallConfig 30 with state := fallConfig.startState, nextSample := some 180 }, 180)).1

theorem test_fall_inhibited : (restartedMonitor fallConfig 30).state = .inhibited := by decide
theorem test_fall_arming : (fallSamples [400, 403]).state = .arming ∧ (fallSamples [400, 403, 450]).state = .clear := by decide
theorem test_fall_fires :
    ((fallSamples [400, 403, 450, 452, 452]).sample 453 480).2 = .fired 1 ∧
      (fallSamples [400, 403, 450, 452, 452, 453, 470]).state = .fired ∧
      (fallSamples [400, 403, 450, 452, 452, 453, 470, 500]).state = .clear := by decide
theorem test_fall_reopened_association : sampleDifference 453 17 = 17 := by decide

/-- 07, "Worked sequence: wear percent": samples 1 and 2. -/
theorem test_wear_percent_levels :
    let r (w : W32) : Assoc :=
      { keyed .live with policy := { defaultPolicy .bulk with hardLimit := 2000000000 }, bankA := worn w }
    (r 1234567890).wearPct = 61 ∧ (r 1240000000).wearPct = 62 ∧ (r 4200).wearPct = 0 := by decide

/-- 05, "Worked sequence: two stations with one number": the standoffs of the two serials. -/
theorem test_standoff : standoffLength 0x47 = 80 ∧ standoffLength 0x34 = 210 := by decide

/-! ## One step of each command -/

/-- A plaintext of 60 octets: destination 02:10:00:00:00:21, an untagged frame of EtherType 0x0800 (02, "Worked sequence:
classification"). -/
def stockFile : List Byte :=
  [0x02, 0x10, 0, 0, 0, 0x21, 0x02, 0x10, 0, 0, 0, 0x05, 0x08, 0x00] ++ List.replicate 46 0

/-- A Flow Table entry that PROTECTs untagged IPv4 frames under association 3. -/
def ipv4Entry : FlowEntry :=
  { defaultFlowEntry with valid := true, action := 1, association := 3, ethertypeGiven := true, laneMatch := 0xF001
                          ethertype := 0x0800 }

/-- A part that protects such frames under a LIVE association 3. -/
def protecting : State :=
  { holding (keyed .live) with
    management := { busy.management with serviceOn := true }, flow := busy.flow.set 2 ipv4Entry }

set_option maxRecDepth 100000 in
theorem test_shopFrameArrival_joins :
    (after (.shopFrameArrival (shopFrameOctets stockFile) false) protecting).engine.outbound.map (fun i => (i.assoc, i.plaintext)) =
      [(3, stockFile)] := by decide +kernel
set_option maxRecDepth 100000 in
theorem test_shopFrameArrival_bad_check :
    (after (.shopFrameArrival (stockFile ++ [0, 0, 0, 0]) false) protecting).stationCount .shopBad = 1 := by decide +kernel

/-- The Shop Port with two frames waiting. -/
def sendingShop (t : ShopTransmit) : State :=
  { busy with shop := { busy.shop with delivery := [stockFile, [1]], transmit := t } }

theorem test_shopTransmitStart :
    (after .shopTransmitStart (sendingShop .idle)).shop.transmit ≠ .idle ∧
    (after (.shopTransmissionEnd false) (sendingShop .idle)).shop.transmit = .idle := by decide +kernel
theorem test_shopTransmissionEnd :
    (after (.shopTransmissionEnd false) (sendingShop (.sending []))).shop =
      { receive := [], transmit := .idle, delivery := [[1]], macReady := false } := by decide +kernel

theorem test_trunkFramingDrop_short :
    let t := after (.trunkFramingDrop 0xC9) (staged .frame [1, 2, 3])
    t.stationCount .malformed = 1 ∧ t.receiver = { state := .opened, staging := [] } := by decide +kernel

/-- The contents of a frame with destination `d`, channel 9, generation 31, a sequence and 0 plaintext octets, its check
made by `trunkCheck`. -/
def frameTo (d : Byte) (channel : Byte) (generation sequence : Byte) : List Byte :=
  let l : List Byte := [d * 16 + 12, channel, 0, generation, 0, 0, 0, sequence, 0, 0] ++ List.replicate 8 0
  l ++ trunkCheckOctets l

/-- Station 3 with association 9's bank B ACTIVE with generation 31 (04, "Worked sequence: pre-checks at station 3"). -/
def station3 (c : List Byte) : State :=
  { busy with
    identity := { station := 3, cause := .power }, management := { busy.management with serviceOn := true }
    receiver := { state := .frame, staging := c }
    assocs := busy.assocs.set 9
      { defaultAssoc 9 with
        state := .live, selector := .bankB, bankA := { installedBank .draining 30 0 with drainDeadline := some 20 }
        bankB := { installedBank .active 31 0 with highest := 100, seen := 9 } } }

theorem test_trunkFrameArrival_joins :
    (after .trunkFrameArrival (station3 (frameTo 3 9 31 101))).engine.inbound.map (fun i => (i.assoc, i.bank, i.sequence)) =
      [(9, .bankB, 101)] := by decide +kernel
theorem test_trunkFrameArrival_drops :
    (after .trunkFrameArrival (station3 (frameTo 15 0 31 101))).stationCount .misaddressed = 1 ∧
      (after .trunkFrameArrival (station3 (frameTo 3 9 29 101))).assocCount 9 .staleGen = 1 ∧
      (after .trunkFrameArrival (station3 (frameTo 3 9 31 36))).assocCount 9 .replay = 1 := by decide +kernel

/-- A sealed frame. -/
def sealed : SealedFrame := { header := [0xC3, 3], ciphertext := [], tag := [], restartMark := false }

/-- Association 3 closes with an outbound item of 60 octets in the engine and a transaction (01, "Worked sequence: closing
an association with work in flight"). -/
def closing : State :=
  { holding
      { keyed .closing with
        bankA := { installedBank .active 7 0 with wear := 12400, nextSequence := 3101, inUse := 1 }, inFlight := 2
        transaction := some { target := 3, generation := 8, tag := 1, bank := .bankA, bankGeneration := 1 } } with
    engine := { busy.engine with current := some (.outbound 3 .bankA .urgent sealed) }
    sendQueue := { busy.sendQueue with reserved := [{ place := .urgent, restartMark := false }] } }

theorem test_outboundCompletion_closing :
    let t := after .outboundCompletion closing
    (t.assoc 3).inFlight = 1 ∧ t.assocCount 3 .stateDrop = 1 ∧ (t.assoc 3).state = .closing ∧
      (t.bank 3 .bankA).inUse = 0 ∧ (t.bank 3 .bankA).nextSequence = 3101 ∧ t.sendQueue.taken = 0 := by decide +kernel

/-- An inbound item of association 3 is in the engine with the tag it computed. -/
def deciphering (delivery : List (List Byte)) : State :=
  { holding { keyed .live with inFlight := 1, bankA := { installedBank .active 1 0 with inUse := 1 }, quiet := 7 } with
    engine := { busy.engine with current := some (.inbound item [9] []) }
    shop := { busy.shop with delivery := delivery } }

theorem test_inboundCompletion_delivers :
    let t := after .inboundCompletion (deciphering [])
    t.shop.delivery = [[9]] ∧ t.assocCount 3 .deciphered = 1 ∧ (t.assoc 3).quiet = 0 ∧ (t.bank 3 .bankA).highest = 1 := by
  decide +kernel
/-- 02, "Worked sequence: a full delivery queue". -/
theorem test_inboundCompletion_full_queue :
    let t := after .inboundCompletion (deciphering (List.replicate 16 []))
    t.shop.delivery.length = 16 ∧ t.assocCount 3 .deciphered = 1 ∧ t.stationCount .deliveryDrop = 1 := by decide +kernel

/-- A transaction of association 3. -/
def transaction : Transaction := { target := 3, generation := 8, tag := 0x21, bank := .bankA, bankGeneration := 1 }

/-- An unwrap item. -/
def unwrapItem : UnwrapItem :=
  { target := 3, generation := 8, bank := .bankA, bankGeneration := 1, sequence := 5, wrapped := 0, wrapCheck := 0 }

/-- An unwrap item for association 3 is in the engine. -/
def unwrapping (st : AssocState) (passes : Bool) : State :=
  { holding { keyed st with transaction := some transaction, inFlight := 2 } with
    engine := { busy.engine with current := some (.unwrap unwrapItem 77 passes) } }

theorem test_unwrapCompletion_fresh :
    let t := after .unwrapCompletion (unwrapping .live true)
    t.bank 3 .bankB = installedBank .fresh 8 77 ∧ (t.assoc 3).transaction = none ∧ (t.assoc 3).inFlight = 1 := by
  decide +kernel
theorem test_unwrapCompletion_pending :
    let t := after .unwrapCompletion (unwrapping .pending true)
    t.bank 3 .bankA = installedBank .active 8 77 ∧ (t.assoc 3).state = .live := by decide +kernel

theorem test_controlMessageInvalid :
    answers (.controlMessageInvalid via [0x3F, 7, 0, 1]) busy = [[0xBF, 7, 0, 0, 6]] ∧
      answers (.controlMessageInvalid via [0x44, 7, 0, 0]) busy = [[0xC4, 7, 0, 0, 1]] := by decide +kernel
theorem test_echo : answers (.echo via 7 [1, 2, 3]) busy = [[0x81, 7, 0, 3, 0, 1, 2, 3]] := by decide +kernel
theorem test_tableRead_settings :
    answers (.tableRead via 7 6 0 1) busy = [[0x82, 7, 0, 11, 0, 6, 0, 1, 4, 20, 10, 0, 0, 0, 0, 0]] := by decide +kernel
theorem test_tableWriteFlow :
    let t := after (.tableWriteFlow via 7 2 1 ([1, 1, 3, 1, 0xF0, 1, 8, 0] ++ List.replicate 12 0)) busy
    t.flowEntry 2 = ipv4Entry := by decide +kernel
theorem test_tableWriteAssocConfig_refused :
    answers (.tableWriteAssocConfig via 7 3 1 (List.replicate 20 0)) busy = [[0x83, 7, 0, 0, 3]] := by decide +kernel
theorem test_tableWriteMonitor :
    ((after (.tableWriteMonitor via 7 3 1
        ([1, 0, 2, 2, 2, 0, 45, 2, 0, 0, 3, 1, 2, 0, 0, 0] ++ word 4 (8 : W32) ++ word 4 (3 : W32))) (atTime busy 1000000 1000)).monitor 3)
      = restartedMonitor rateConfig 1000 := by decide +kernel
theorem test_tableWriteSettings_clamped :
    let t := after (.tableWriteSettings via 7 0 1 [9, 0, 50, 1, 0, 0, 0, 0]) busy
    t.management.settings = { burstLimit := 8, ackTimeout := 1, reportPacing := 50 } ∧ t.management.serviceOn = false := by
  decide +kernel
theorem test_tableWriteBadTable : answers (.tableWriteBadTable via 7 3 0 1 []) busy = [[0x83, 7, 0, 0, 5]] := by decide +kernel
theorem test_assocOpen :
    ((after (.assocOpen via 7 3) busy).assoc 3).state = .pending ∧
      answers (.assocOpen via 7 3) busy = [[0x90, 7, 0, 2, 0, 3, 1]] := by decide +kernel
theorem test_assocClose : answers (.assocClose via 7 3) (holding (keyed .live)) = [[0x91, 7, 0, 2, 0, 3, 0]] := by decide +kernel
theorem test_assocResume : answers (.assocResume via 7 3) (holding (keyed .suspended)) = [[0x92, 7, 0, 2, 0, 3, 2]] := by
  decide +kernel
theorem test_keyOffer_begins :
    let t := after (.keyOffer via 0x21 3 8 0 0) (holding (keyed .live))
    (t.assoc 3).transaction = some transaction ∧ t.engine.unwrap = [unwrapItem] := by decide +kernel
theorem test_keyOffer_stale :
    answers (.keyOffer via 7 3 1 0 0) (holding (keyed .live)) = [[0xA0, 7, 0, 4, 3, 3, 0, 0, 1]] := by decide +kernel

/-- Association 3 with generation 30 ACTIVE and 31 FRESH (01, "Worked sequence: promotion and drain with an item in the
engine"), at second 1000. -/
def renewing : State :=
  atTime (holding { keyed .live with bankA := installedBank .active 30 0, bankB := installedBank .fresh 31 0 }) 1000000 1000

theorem test_keySwitch :
    let t := after (.keySwitch via 7 3 31) renewing
    (t.bank 3 .bankA).state = .draining ∧ (t.bank 3 .bankA).drainDeadline = some 1020 ∧ (t.bank 3 .bankB).state = .active ∧
      (t.assoc 3).selector = .bankB := by decide +kernel
/-- R114, log entry 33: a switch and a withdrawal that leave the association renewal-due offer the RENEW_REQUEST first. -/
theorem test_keySwitchAndWithdraw_due :
    let r : Assoc :=
      { keyed .live with
        policy := { defaultPolicy .bulk with softLimit := 10 }, bankA := { installedBank .active 30 0 with wear := 10 }
        bankB := { installedBank .fresh 31 0 with wear := 10 } }
    (∀ c ∈ [Instr.keySwitch via 7 3 31, .keyWithdraw via 7 3 31],
      (answers c (holding r)).map (fun o => octetAt o 0) = [0x61, 0x80 + (if c = .keyWithdraw via 7 3 31 then 0x22 else 0x21)]) ∧
      (r.setBank .bankB emptyBank).isDue = true := by decide +kernel
theorem test_keyWithdraw : (after (.keyWithdraw via 7 3 31) renewing).bank 3 .bankB = emptyBank := by decide +kernel
theorem test_drainDeadlineExpiry :
    let s := holding { keyed .live with bankB := { installedBank .draining 30 0 with drainDeadline := some 20, inUse := 1 } }
    ((after (.drainDeadlineExpiry 3 .bankB) (atTime s 20000 20)).bank 3 .bankB).state = .retiring ∧
      ((after (.drainDeadlineExpiry 3 .bankB) (atTime s 18999 18)).bank 3 .bankB).state = .draining := by decide +kernel
theorem test_monitorClear :
    answers (.monitorClear via 7 3) (watching { defaultMonitor with state := .fired }) = [[0xB0, 7, 0, 2, 0, 3, 3]] := by
  decide +kernel
theorem test_serviceSet : (after (.serviceSet via 7 1) busy).management.serviceOn = true := by decide +kernel
theorem test_restart :
    (after (.restart via 7) (atTime busy 1234 1)).management.restartTakenAt = some 1234 ∧
      (after (.restart via 7) busy).engine.outbound.map (fun i => i.restartMark) = [true] := by decide +kernel
theorem test_restartLimitExpiry :
    let t := after .restartLimitExpiry { busy with management := { busy.management with restartTakenAt := some 0 }
                                                   time := { milliseconds := 1999, seconds := 1, storeWaits := false } }
    t.power.running = false ∧ t.power.cause = .soft ∧ t.engine.current = none := by decide +kernel
theorem test_resetCondition :
    (after (.resetCondition .pin true) busy).power.running = false ∧
      (after (.resetCondition .pin false) (after (.resetCondition .pin true) busy)).power.cause = .pin := by decide +kernel
theorem test_startUp :
    let t := after (.startUp 5 .hold .completed) State.reset
    t.power.running = true ∧ t.identity.station = 5 ∧ t.provisioning.epoch = 1 ∧ (t.assoc 0).state = .live ∧
      (t.bank 0 .bankA).generation = 1 ∧ (t.bank 0 .bankA).nextSequence = 2 ∧ t.access.pace = .hold := by decide +kernel
theorem test_timeBaseSecond :
    let t := after .timeBaseSecond (holding (keyed .live))
    t.time = { milliseconds := 1000, seconds := 1, storeWaits := false } ∧ (t.bank 3 .bankA).keyAge = 1 ∧ (t.bank 3 .bankB).keyAge = 0 ∧
      (t.assoc 7).quiet = 1 := by decide +kernel
theorem test_renewRequestTimerExpiry :
    let t := after (.renewRequestTimerExpiry 3)
      (atTime (holding { keyed .live with monitorRenewal := true, renewDeadline := some 60 }) 60000 60)
    (t.assoc 3).renewDeadline = some 120 ∧ t.engine.outbound.map (fun i => i.plaintext.take 8) =
      [[0x61, 0, 0, 20, 3, 2, 8, 0]] := by decide +kernel
theorem test_startupInhibitExpiry :
    (after (.startupInhibitExpiry 3) (atTime (watching (restartedMonitor fallConfig 30)) 120000 120)).monitor 3 =
      { restartedMonitor fallConfig 30 with state := .arming, nextSample := some 180 } := by decide +kernel
theorem test_monitorSample :
    ((after (.monitorSample 3) (atTime (watching (restartedMonitor rateConfig 1000)) 1045000 1045)).monitor 3).nextSample =
      some 1090 := by decide +kernel

/-- A report record. -/
def record (n : W16) (st : ReportState) (severity : Byte) : ReportRecord where
  number := n
  kind := .monitorFired
  severity := severity
  source := .monitor 3
  firstTime := 10
  lastTime := 10
  occurrences := 1
  value := some 10
  state := st
  ackDeadline := match st with
    | .unsent => none
    | .inFlight => some 12000
  resendCount := 0

/-- #41 IN_FLIGHT and #45 UNSENT, of one kind and source (08, "Worked sequence: folding, pacing and a returning record"). -/
def returning : State :=
  atTime (reporting
    { records := [record 41 .inFlight 3, { record 45 .unsent 3 with firstTime := 11, lastTime := 11, value := some 12 }]
      nextNumber := 46, dropped := 0, pacingDeadline := some 12000, retryDeadline := none }) 12000 12

theorem test_reportAck :
    answers (.reportAck via 7 [41, 9]) returning = [[0xB1, 7, 0, 1, 0, 1]] ∧
      ((after (.reportAck via 7 [41, 9]) returning).reports.records.map (fun r => r.number)) = [45] := by decide +kernel
theorem test_ackDeadlineExpiry_merges :
    (after (.ackDeadlineExpiry 41) returning).reports.records =
      [{ record 45 .unsent 3 with firstTime := 10, lastTime := 11, value := some 12, occurrences := 2, resendCount := 1 }] := by
  decide +kernel
theorem test_pacingTimerExpiry_offers :
    (after .pacingTimerExpiry returning).reports.records.map (fun r => (r.number, r.state, r.ackDeadline)) =
      [(41, .inFlight, some 12000), (45, .inFlight, some 14000)] := by decide +kernel
theorem test_retryTimerExpiry :
    (after .retryTimerExpiry (reporting { busy.reports with records := [record 45 .unsent 3], retryDeadline := some 10 })
      ).reports.records.map (fun r => r.state) = [.inFlight] := by decide +kernel

/-- The controller in a state with the line watch in a state. -/
def access (st : AccessState) (w : WatchState) (idle : Nat) : Access :=
  { defaultAccess .go with state := st, watch := w, idleCount := idle }

/-- A frame in transmission. -/
def transmitting (n clashes : Nat) : State :=
  { atLine { access .sending .frame 0 with
             transmission := .frame .urgent [1], sentInBurst := n, clashes := clashes } with
    sendQueue := { busy.sendQueue with urgent := [sealed], bulk := [sealed] } }

theorem test_lineQuiet : (after .lineQuiet (atLine (access .listen .rest 15))).access.state = .idle := by decide +kernel
theorem test_openGap :
    let s := atLine { access .deferred .rest 16 with openGaps := 1 }
    (after .openGap s).access.state = .idle ∧ (after .openGap s).access.idleCount = 32 := by decide +kernel
theorem test_claimByOtherStation :
    (after .claimByOtherStation (atLine { access .deferred .rest 40 with openGaps := 1 })).access =
      access .deferred .claim 0 := by decide +kernel
theorem test_lineWatchGuard :
    (after (.lineWatchGuard 0) (atLine { access .listen .frame 0 with octetCount := 3076 })).access.watch = .rest := by
  decide +kernel
theorem test_claimStart :
    let s := { atLine (access .reserved .rest 16) with identity := { station := 3, cause := .power } }
    (after (.claimStart true) s).access =
      { access .claiming .claim 0 with transmission := .claim [false, false, true, true] } := by decide +kernel
theorem test_claimLost :
    let t := after (.claimLost 1) (atLine (access .claiming .claim 0))
    t.access.state = .reserved ∧ t.stationCount .claimLoss = 1 := by decide +kernel
theorem test_claimWon :
    (after .claimWon { atLine (access .claiming .claim 0) with
        sendQueue := { busy.sendQueue with urgent := [sealed], bulk := [sealed] } }).access.sendingClass = some .urgent := by
  decide +kernel
theorem test_frameSent_goes_on :
    let t := after .frameSent (transmitting 2 1)
    t.access.sendingClass = some .bulk ∧ t.access.clashes = 0 ∧ t.sendQueue.taken = 1 := by decide +kernel
theorem test_frameSent_burst_limit : (after .frameSent (transmitting 3 0)).access.transmission = .ended := by decide +kernel
theorem test_clash :
    let t := after .clash (transmitting 0 0)
    t.access.transmission = .aborting .clash [0xCA, 0xC9] ∧ t.access.clashes = 1 ∧ t.stationCount .clash = 1 ∧
      t.sendQueue.taken = 2 := by decide +kernel

/-- The release after a clash. -/
def clashed (n clashes : Nat) : State :=
  atLine { access .sending .frame 0 with
           transmission := .aborting .clash abortSequence, sentInBurst := n, clashes := clashes }

theorem test_burstRelease_second_clash :
    (after .burstRelease (clashed 0 2)).access.state = .reserved ∧ (after .burstRelease (clashed 1 2)).access.state = .deferred := by
  decide +kernel
theorem test_burstRelease_third_clash :
    let t := after .burstRelease (clashed 0 3)
    t.access.state = .standoff ∧ t.access.clashes = 0 ∧ t.reports.records.map (fun r => (r.kind, r.severity)) =
      [(.stationClash, 3)] := by decide +kernel
theorem test_standoffExpiry :
    let t := after .standoffExpiry (atLine { access .standoff .rest 0 with standoffDeadline := some 80 })
    t.access.state = .reserved ∧ t.time.milliseconds = 80 := by decide +kernel
theorem test_paceHold :
    let t := after (.paceHold .inFrame) (transmitting 0 0)
    t.access.transmission = .aborting .pace [0xCA, 0xC9] ∧ t.stationCount .paceAbort = 1 ∧
      (after (.paceHold .inLastOctet) (transmitting 0 0)).access.transmission = .frame .urgent [1] ∧
      (after (.paceHold .atBoundary) (transmitting 0 0)).access.transmission = .ended := by decide +kernel
theorem test_paceGo : (after .paceGo (atLine { access .reserved .rest 20 with pace := .hold })).access.pace = .go := by
  decide +kernel
theorem test_trunkClockLoss :
    let t := after .trunkClockLoss (staged .escaped [1])
    t.stationCount .clockLoss = 1 ∧ t.stationCount .malformed = 1 ∧ t.receiver.state = .hunt ∧
      t.access.clockDeadline = none := by decide +kernel
theorem test_trunkClockReturn :
    (after .trunkClockReturn (atLine { access .listen .frame 7 with clockDeadline := none })).access =
      access .listen .rest 0 := by decide +kernel
theorem test_huntDelimiterFound : (after .huntDelimiterFound (staged .hunt [])).receiver.state = .opened := by decide +kernel
theorem test_trunkReceiveOctet :
    (after (.trunkReceiveOctet 0xDA) (staged .escaped [1])).receiver = { state := .frame, staging := [1, 0xCA] } := by
  decide +kernel
theorem test_busyPeriodEnd : (after .busyPeriodEnd (atLine (access .listen .boundary 0))).access = access .listen .rest 8 := by
  decide +kernel
theorem test_lineWatchOctet :
    (after (.lineWatchOctet (.octet 0xCA)) (atLine (access .listen .boundary 0))).access.watch = .escaped := by decide +kernel

theorem test_lineWatch_single_bits :
    (after (.lineWatchOctet .idleBit) (atLine (access .listen .rest 14))).access.idleCount = 15 ∧
      (after (.lineWatchOctet .idleBit) (atLine (access .listen .rest 15))).access.state = .idle ∧
      (after (.lineWatchOctet .stationBit) (atLine (access .listen .claim 0))).access.stationBits = 1 := by decide +kernel

/-- R9: with association 0 PENDING no control message reaches the part. -/
theorem test_message_not_heard :
    after (.assocOpen via 7 3) { busy with assocs := busy.assocs.set 0 { defaultAssoc 0 with state := .pending } } =
      { busy with assocs := busy.assocs.set 0 { defaultAssoc 0 with state := .pending } } := rfl

/-- R172: a step with no command takes the expiry of a timer that is due, any of them, and no other timer passes it. -/
theorem test_step_takes_a_due_expiry :
    (step returning = exec (.ackDeadlineExpiry 41) { returning with free := 1 } ∨
        step returning = exec .pacingTimerExpiry { returning with free := 1 }) ∧
      exec .timeBaseSecond (atTime returning 12999 12) = .next (atTime returning 12999 12) := by
  have h : returning.dueTimers = [(.ackDeadlineExpiry 41, 12000), (.pacingTimerExpiry, 12000)] := by decide +kernel
  refine ⟨?_, rfl⟩
  show idleStep returning = _ ∨ idleStep returning = _
  unfold idleStep State.dueExpiry
  rw [h]
  rcases Nat.mod_two_eq_zero_or_one (Config.firstExpiry returning.free) with e | e
  · exact .inl (by simp [e]; rfl)
  · exact .inr (by simp [e]; rfl)

/-- A monitor of sense RISE on QUIET of association 3, which is 7, due for a sample at second 1. -/
def quietSample : State :=
  { watching (restartedMonitor
      { defaultMonitorConfig with enable := true, source := .association .quiet, sourceAssoc := 3, setLevel := 100 } 0) with
    assocs := busy.assocs.set 3 { keyed .live with quiet := 7 } }

/-- R124: a sample before the Association Store takes the same second reads QUIET before its advance, one after it the
advanced QUIET; the second is whole after both, in either order. -/
theorem test_sample_and_second_in_either_order :
    let early := after .timeBaseSecond (after (.monitorSample 3) quietSample)
    let late := after (.monitorSample 3) (after .timeBaseSecond quietSample)
    (early.monitor 3).lastMeasured = 7 ∧ (late.monitor 3).lastMeasured = 8 ∧ (early.assoc 3).quiet = 8 ∧
      early.assocs = late.assocs ∧ early.time = late.time ∧ (early.monitor 3).nextSample = some 2 ∧
      early.time = { milliseconds := 1000, seconds := 1, storeWaits := false } := by decide +kernel

/-- A step with a command waiting runs it and takes it from the queue. -/
theorem test_step_takes_the_front :
    step { State.reset with pending := [.resetCondition .pin true, .lineQuiet] } =
      .next { State.reset with pending := [.lineQuiet], power := { State.reset.power with pinPresent := true } } := rfl

/-! ## What the hypotheses of the obligations are met by

For each obligation a state and operands that meet the hypotheses of its clauses, at the bounds of their ranges. -/

/-! ### The machine as a whole -/

theorem witness_StepRunsTheFrontCommand :
    { State.reset with pending := [.lineQuiet, .openGap] }.pending = Instr.lineQuiet :: [.openGap] := rfl

theorem witness_EmptyQueueStepPassesAMillisecond :
    (State.reset.pending = [] ∧ State.reset.power.running = false) ∧
      (returning.pending = [] ∧ returning.power.running = true ∧ returning.Due .pacingTimerExpiry) ∧
      (∀ s ∈ [atTime busy 998 0, atTime busy 999 0, atTime busy 5000000000000 4294967295],
        s.pending = [] ∧ s.power.running = true ∧ ∀ c, ¬s.Due c) ∧
      (998 + 1 < 1000 * ((0 : W32).toNat + 1) ∧ 1000 * ((0 : W32).toNat + 1) ≤ 999 + 1 ∧ (0 : W32) ≠ 4294967295) := by
  refine ⟨⟨rfl, rfl⟩, ⟨rfl, rfl, 12000, rfl, by decide⟩, ?_, by decide⟩
  intro s hs
  simp only [List.mem_cons, List.not_mem_nil, or_false] at hs
  obtain rfl | rfl | rfl := hs <;> exact ⟨rfl, rfl, State.passesNone_iff.1 (by decide +kernel)⟩

theorem witness_PartHeldInResetTakesNothing :
    State.reset.power.running = false ∧ (∀ x b, Instr.timeBaseSecond ≠ .resetCondition x b) ∧
      (∀ a p o, Instr.timeBaseSecond ≠ .startUp a p o) := ⟨rfl, nofun, nofun⟩

theorem witness_ProvisioningStoreKeptButForTheEpoch :
    exec (.resetCondition .pin false) State.reset = .next State.reset ∧
      (∀ a p o, Instr.resetCondition .pin false ≠ .startUp a p o) := ⟨rfl, nofun⟩

/-- A running part in which every association is as `r`. -/
def everywhere (r : Assoc) : State := { busy with assocs := Vector.replicate 32 r }

theorem everywhere_assoc (r : Assoc) (a : AssocId) : (everywhere r).assoc a = r := by
  simp [everywhere, State.assoc]

theorem keyed_sound : (keyed .live).Sound := by
  refine ⟨⟨?_, ?_, ?_⟩, ?_, ?_, ?_, ?_, ?_⟩ <;> simp [keyed, defaultAssoc, installedBank, emptyBank, Assoc.bank, Bank.WithinLimit]

theorem witness_EveryStepKeepsTheCapacities :
    { busy with pending := [.openGap] }.WithinCapacities ∧ ∃ t, step { busy with pending := [.openGap] } = .next t := by
  refine ⟨?_, _, rfl⟩
  constructor <;> decide

theorem witness_EveryStepKeepsTheAssociationLaws :
    (everywhere (keyed .live)).AssocsSound ∧ (everywhere (keyed .live)).ManagementKeyed ∧
      ∃ t, step { everywhere (keyed .live) with pending := [.openGap] } = .next t := by
  refine ⟨fun a => ?_, fun _ => Or.inl ?_, _, rfl⟩
  · rw [everywhere_assoc]; exact keyed_sound
  · rw [everywhere_assoc]; rfl

theorem returning_lawful : returning.reports.Lawful := by
  refine ⟨by decide, by decide, ?_⟩
  simp [returning, atTime, reporting, record, ReportRecord.Apart]

theorem returning_numbered : returning.reports.Numbered := ⟨by decide, by decide⟩

theorem witness_EveryStepKeepsTheReportQueueLawful :
    { returning with pending := [.openGap] }.reports.Lawful ∧ { returning with pending := [.openGap] }.reports.Numbered ∧
      ∃ t, step { returning with pending := [.openGap] } = .next t :=
  ⟨returning_lawful, returning_numbered, _, rfl⟩

theorem witness_EveryStepKeepsTheTimeBaseCoherent :
    ((atTime busy 1999 1).time.Coherent ∧ ∃ t, step { atTime busy 1999 1 with pending := [.openGap] } = .next t) ∧
      (let s : State :=
          { returning with access := { returning.access with clockDeadline := some 12000 }, pending := [.pacingTimerExpiry] }
       s.Timely ∧ ∃ t, step s = .next t) :=
  ⟨⟨⟨by decide, by decide⟩, _, rfl⟩,
    ⟨State.passesNone_iff.1 (by decide +kernel), fun t h => by cases h; exact Nat.le_refl 12000⟩, _, rfl⟩

theorem witness_ClaimsStartOnlyFromReservedWithGo :
    let s := atLine (access .reserved .rest 16)
    ∃ t, exec (.claimStart true) s = .next t ∧ t.access.state = .claiming ∧ s.access.state ≠ .claiming := by
  exact ⟨_, rfl, rfl, by decide⟩

/-! ### Computations and conditions -/

theorem witness_ReceiveWindowNeverAcceptsTwice :
    let k := { installedBank .active 1 0 with highest := 64, seen := 1 }
    (k.accepts 1 = true ∧ k.accepts 64 = false ∧ k.accepts 65 = true ∧ k.accepts 0 = false) ∧
      k.highest.toNat < (65 : W32).toNat ∧ (0 : W32).toNat + 64 ≤ k.highest.toNat ∧
      ((1 : W32).toNat ≤ k.highest.toNat ∧ k.highest.toNat < (1 : W32).toNat + 64 ∧
        (64 : W32).toNat ≤ k.highest.toNat) ∧
      ((2 : W32) ≠ 65 ∧ (k.mark 65).highest.toNat < (2 : W32).toNat + 64) := by
  refine ⟨by decide, by decide, by decide, by decide, by decide, by decide⟩

theorem witness_FlowEntryMatchesItsPatterns :
    (let tagged : List Byte := List.replicate 12 0 ++ [0x81, 0, 0xA0, 7, 8, 0]
     octetAt tagged 12 = 0x81 ∧ octetAt tagged 13 = 0 ∧ ¬(octetAt stockFile 12 = 0x81 ∧ octetAt stockFile 13 = 0)) ∧
      (defaultFlowEntry.valid = false ∧ ipv4Entry.valid = true) ∧
      (laneMatchCoded 0xF000 = true ∧ laneMatchCoded 0xF001 = true ∧ laneMatchCoded 1 = true ∧ laneMatchCoded 4094 = true ∧
        laneMatchCoded 0 = false ∧ laneMatchCoded 4095 = false) ∧
      defaultFlowEntry.laneMatch = 0xF000 ∧ defaultFlowEntry.ethertypeGiven = false ∧
      defaultFlowEntry.destinationGiven = false :=
  ⟨by decide, ⟨rfl, rfl⟩, by decide, rfl, rfl, rfl⟩

theorem keyed_inOrder (st : AssocState) : (keyed st).BanksInOrder := by
  refine ⟨?_, ?_, ?_⟩ <;> simp [keyed, defaultAssoc, installedBank, emptyBank]

/-- An association that is due for every reason, each at its bound. -/
def due : Assoc :=
  { keyed .live with
    policy := { defaultPolicy .bulk with softLimit := 10, maxKeyAge := 20 }
    bankA := { installedBank .active 1 0 with wear := 10, keyAge := 20, nextSequence := 2147483648 }
    monitorRenewal := true }

theorem witness_RenewalDueCondition :
    (due.BanksInOrder ∧ due.isDue = true ∧ (due.bank .bankA).state = .active ∧
      due.dueReasons = [.wear, .age, .sequence, .monitor]) ∧
      (let s := holding due
       let u := holding { due with renewDeadline := some 60 }
       (s.assoc 3).isDue = true ∧ (s.assoc 3).renewDeadline = none ∧ (s.assoc 3).activeBank = some .bankA ∧
        s.engine.outbound.length < 16 ∧ s.sendQueue.taken < 32 ∧ (s.assoc 5).isDue = false ∧ (u.assoc 3).isDue = true ∧
        (u.assoc 3).renewDeadline.isSome = true ∧ 16 ≤ (List.replicate 16 0).length) := by
  refine ⟨⟨⟨?_, ?_, ?_⟩, by decide, by decide, by decide⟩, by decide +kernel⟩ <;>
    simp [due, keyed, defaultAssoc, installedBank, emptyBank]

theorem witness_MaximumKeyAgeTakenAsWritten :
    (policyOfOctets 3 ([0, 2, 0, 0] ++ List.replicate 16 0)).isSome = true := by decide

theorem witness_WrittenLimitsAreClampedIntoRange :
    1 ≤ (1 : W32).toNat ∧ (0 : AssocId) = 0 ∧ rateConfig.sense = .rise ∧ fallConfig.sense = .fall := by decide

/-- R130: levels that leave no room are clamped apart, and levels in range stay. -/
theorem test_monitor_levels_clamped :
    let c := clampMonitor { rateConfig with setLevel := 0, clearLevel := 7 }
    let d := clampMonitor { fallConfig with setLevel := 4294967295, clearLevel := 3 }
    (c.setLevel = 1 ∧ c.clearLevel = 0) ∧ (d.setLevel = 4294967294 ∧ d.clearLevel = 4294967295) := by decide +kernel

theorem witness_RateIsComputedWideAndSaturated : rateConfig.mode = .rate ∧ { rateConfig with period := 1 }.mode = .rate := by
  decide

theorem witness_NewReportNumbersAreFree :
    returning.reports.records.length ≤ 24 ∧ returning.reports.nextNumber ≠ 0 ∧
      { returning.reports with nextNumber := 65535 }.records.length ≤ 24 ∧
      (List.replicate 24 (record 41 .unsent 3)).length = 24 :=
  ⟨by decide, by decide, by decide, rfl⟩

/-- R143: a number that a record holds is passed over, and 65535 is followed by 1. -/
theorem test_freeNumber :
    let l : List ReportRecord := [record 65535 .unsent 3, record 41 .unsent 3, record 45 .unsent 3]
    [46, 41, 45, 65534, 65535].map (fun n => freeNumber l n 25) = [46, 42, 46, 65534, 1] ∧ numberAfter 65535 = 1 := by
  decide +kernel

/-! ### The lines -/

theorem witness_StuffedContentsArriveAsSent :
    ∀ n ∈ [20, 1538], let c : List Byte := List.replicate n 0xC9
      ({ state := .opened, staging := [] } : Receiver).state = .opened ∧ 20 ≤ c.length ∧ c.length ≤ 1538 ∧ octetAt c 0 ≠ 0xFF := by
  intro n hn
  simp only [List.mem_cons, List.not_mem_nil, or_false] at hn
  simp only [List.length_replicate]
  obtain rfl | rfl := hn <;> exact ⟨trivial, by decide, by decide, by decide +kernel⟩

theorem witness_SealedFramesReadAsWritten :
    (∀ n ∈ [0, 1518], (List.replicate n (0 : Byte)).length ≤ 1518 ∧ (1 : W32) ≠ 0) ∧
      (sentHeader 5 3 1 1 1518).length = 10 := by
  refine ⟨fun n hn => ?_, rfl⟩
  simp only [List.mem_cons, List.not_mem_nil, or_false] at hn
  simp only [List.length_replicate]
  obtain rfl | rfl := hn <;> decide

theorem witness_ShopFramesPassTheirOwnCheck :
    (∀ n ∈ [0, 59, 60, 1518], (List.replicate n (0 : Byte)).length ≤ 1518) ∧ (List.replicate 59 (0 : Byte)).length ≤ 59 := by
  simp only [List.length_replicate]
  decide

/-! ### The Trunk Receiver -/

theorem witness_ReceiverTakesAndDropsOctets :
    (∀ w l, (staged w l).Clocked ∧ (staged w l).receiver = { state := w, staging := l }) ∧
      (List.replicate 1537 (0 : Byte)).length < 1538 ∧ (List.replicate 1538 (0 : Byte)).length = 1538 ∧
      (List.replicate 19 (0 : Byte)).length < 20 ∧
      ((0 : Byte) ≠ 0xC9 ∧ (0 : Byte) ≠ 0xCA ∧ (0 : Byte) ≠ 0xD9 ∧ (0 : Byte) ≠ 0xDA) := by
  refine ⟨fun w l => ⟨⟨rfl, rfl⟩, rfl⟩, ?_⟩
  simp only [List.length_replicate]
  decide

/-- The contents of a frame at station 3, for association 9, of 20 octets. -/
theorem witness_arrivals (c : List Byte) :
    (station3 c).Clocked ∧ (station3 c).Busy ∧ (station3 c).receiver = { state := .frame, staging := c } :=
  ⟨⟨rfl, rfl⟩, ⟨rfl, rfl, rfl⟩, rfl⟩

theorem formHolds_iff (c : List Byte) : FormHolds c ↔
    (octetAt c 1).toNat / 32 = 0 ∧ ¬(octetAt c 4 = 0 ∧ octetAt c 5 = 0 ∧ octetAt c 6 = 0 ∧ octetAt c 7 = 0) ∧
      (octetAt c 8).toNat * 256 + (octetAt c 9).toNat ≤ 1518 ∧
      c.length = (octetAt c 8).toNat * 256 + (octetAt c 9).toNat + 20 :=
  ⟨fun ⟨k, q, l, n⟩ => ⟨k, q, l, n⟩, fun ⟨k, q, l, n⟩ => ⟨k, q, l, n⟩⟩

theorem witness_ArrivalFailsAtTheFirstTest_check :
    let bad : List Byte := List.replicate 20 0
    let kind1 : List Byte := frameTo 3 0x29 31 101
    bad.length = 20 ∧ ¬CheckHolds bad ∧ kind1.length = 20 ∧ CheckHolds kind1 ∧ ¬FormHolds kind1 := by
  simp only [CheckHolds, formHolds_iff]
  decide +kernel

/-- R70: the form at its boundaries: L of 1518 with 1538 octets, L of 1519, one octet less and one more than L + 20. -/
theorem witness_ArrivalFailsAtTheFirstTest_form :
    let stored (l n : Nat) : List Byte := [0x3C, 9, 0, 31, 0, 0, 0, 1] ++ beOctets 2 l ++ List.replicate (n - 10) 0
    FormHolds (stored 1518 1538) ∧ ¬FormHolds (stored 1519 1538) ∧ ¬FormHolds (stored 1518 1537) ∧ FormHolds (stored 0 20) ∧
      ¬FormHolds (stored 0 21) ∧ ¬FormHolds (stored 1 20) ∧ (stored 1518 1538).length = 1538 := by
  simp only [formHolds_iff]
  decide +kernel

theorem witness_ArrivalFailsAtTheFirstTest_address :
    (∀ c ∈ [frameTo 5 9 31 101, frameTo 15 0 31 101, frameTo 3 9 31 101],
      c.length = 20 ∧ CheckHolds c ∧ FormHolds c) ∧
      (destinationOf (frameTo 5 9 31 101) = 5 ∧ destinationOf (frameTo 15 0 31 101) = 15 ∧
        channelOf (frameTo 15 0 31 101) = 0 ∧ destinationOf (frameTo 3 9 31 101) = 3 ∧ channelOf (frameTo 3 9 31 101) = 9) := by
  simp only [CheckHolds, formHolds_iff]
  decide +kernel

theorem witness_ArrivalFailsAtTheFirstTest_bank :
    let r := (station3 []).assoc 9
    r.state = .live ∧ r.direction ≠ .outbound ∧ (station3 []).management.serviceOn = true ∧
      { r with state := .suspended }.state = .suspended ∧ { r with direction := .outbound }.direction = .outbound ∧
      { busy.management with serviceOn := false }.serviceOn = false ∧
      (∀ b ∈ [BankId.bankA, .bankB], ¬(r.bank b).Qualifies 29) ∧ (r.bank .bankB).Qualifies 31 ∧
      ¬(r.bank .bankA).Qualifies 31 ∧ (r.bank .bankA).Qualifies 30 ∧ ¬{ r.bank .bankA with state := .retiring }.Qualifies 30 ∧
      (r.bank .bankB).accepts 36 = false ∧ (r.bank .bankB).accepts 37 = true ∧ (r.bank .bankB).accepts 97 = false ∧
      (List.replicate 16 item).length = 16 := by
  simp only [Bank.Qualifies]
  decide +kernel

theorem witness_ArrivalThatPassesJoinsTheInboundQueue :
    let c := frameTo 3 9 31 37
    20 ≤ c.length ∧ c.length ≤ 1538 ∧ CheckHolds c ∧ FormHolds c ∧
      destinationOf c = (station3 c).identity.station.toNat ∧ (station3 c).management.serviceOn = true ∧
      ((station3 c).assoc (channelOf c)).state = .live ∧ ((station3 c).assoc (channelOf c)).direction ≠ .outbound ∧
      ((station3 c).bank (channelOf c) .bankB).Qualifies (generationOf c) ∧
      ¬((station3 c).bank (channelOf c) .bankA).Qualifies (generationOf c) ∧
      ((station3 c).bank (channelOf c) .bankB).accepts (sequenceOf c) = true ∧ (station3 c).engine.inbound.length < 16 := by
  simp only [CheckHolds, formHolds_iff, Bank.Qualifies]
  decide +kernel

/-! ### The line watch and the access state machine -/

theorem witness_RestEventsMoveTheAccessState :
    (∀ p ∈ [(AccessState.listen, 0), (.listen, 15), (.idle, 16), (.deferred, 16), (.deferred, 31), (.reserved, 32)],
      let s := atLine (access p.1 .rest p.2)
      (s.power.running = true ∧ s.access.clockDeadline.isSome = true) ∧ s.access.watch = .rest ∧ s.access.state = p.1 ∧
        s.access.idleCount = p.2) ∧
      (∀ n ∈ [0, 14, 16, 30, 32], (n + 1) % 16 ≠ 0) ∧ (∀ n ∈ [31, 47], 16 ≤ n ∧ (n + 1) % 16 = 0) := by decide +kernel

theorem witness_LineWatchFollowsTheTable :
    ∀ p ∈ [(WatchState.claim, 0), (.boundary, 0), (.frame, 3075), (.escaped, 3075), (.frame, 3076), (.escaped, 3076)],
      ∀ n ∈ [0, 1, 2], let s := atLine { access .listen p.1 0 with octetCount := p.2, stationBits := n }
        (s.power.running = true ∧ s.access.clockDeadline.isSome = true) ∧ s.access.watch = p.1 ∧
          s.access.octetCount = p.2 ∧ s.access.stationBits = n := by decide +kernel

theorem witness_ClaimsStartAndAreLost :
    let s := atLine (access .reserved .rest 16)
    let u := atLine (access .claiming .claim 0)
    let v := atLine (access .claiming .rest 17)
    (s.power.running = true ∧ s.access.clockDeadline.isSome = true ∧ s.access.state = .reserved ∧ s.access.pace = .go ∧
        s.access.watch = .rest ∧ 16 ≤ s.access.idleCount) ∧
      (v.power.running = true ∧ v.access.clockDeadline.isSome = true ∧ v.access.state = .claiming ∧ v.access.watch = .rest) ∧
      (u.power.running = true ∧ u.access.clockDeadline.isSome = true ∧ u.access.state = .claiming) := by decide +kernel

theorem witness_WonClaimSendsTheHighestClass :
    let s := { atLine (access .claiming .claim 0) with sendQueue := { busy.sendQueue with bulk := [sealed] } }
    (s.power.running = true ∧ s.access.clockDeadline.isSome = true) ∧ s.access.state = .claiming ∧ s.access.watch = .claim ∧
      s.access.pace = .go ∧ s.sendQueue.filled .bulk = sealed :: [] ∧ s.sendQueue.control = [] ∧ s.sendQueue.urgent = [] ∧
      ({ access .claiming .claim 0 with pace := .hold } : Access).pace = .hold := by decide +kernel

theorem witness_SentFrameLeavesAndTheBurstGoesOn :
    let s := transmitting 0 0
    let u : State :=
      { s with
        sendQueue := { s.sendQueue with urgent := [{ sealed with restartMark := true }], bulk := [] }
        management := { s.management with restartTakenAt := some 0 } }
    s.Clocked ∧ s.Busy ∧ u.Clocked ∧ u.Busy ∧ s.access.state = .sending ∧
      s.access.transmission = .frame .urgent [1] ∧ s.sendQueue.filled .urgent = sealed :: [] ∧ sealed.restartMark = false ∧
      u.access.transmission = .frame .urgent [1] ∧
      u.sendQueue.filled .urgent = { sealed with restartMark := true } :: [] ∧
      u.management.restartTakenAt.isSome = true ∧
      (let q := u.sendQueue.setFilled .urgent []
       q.control = [] ∧ q.urgent = [] ∧ q.bulk = []) ∧
      (let q := s.sendQueue.setFilled .urgent []
       q.filled .bulk = sealed :: [] ∧ q.control = [] ∧ q.urgent = []) :=
  ⟨⟨rfl, rfl⟩, ⟨rfl, rfl, rfl⟩, ⟨rfl, rfl⟩, ⟨rfl, rfl, rfl⟩, rfl, rfl, rfl, rfl, rfl, rfl, rfl, ⟨rfl, rfl, rfl⟩, rfl, rfl, rfl⟩

theorem witness_ClashesReleasesAndStandoff :
    (∀ n k, (clashed n k).Clocked ∧ (clashed n k).Busy ∧ (clashed n k).access.state = .sending ∧
      (clashed n k).access.transmission = .aborting .clash [0xCA, 0xC9] ∧ (clashed n k).access.sentInBurst = n ∧
      (clashed n k).access.clashes = k) ∧
      ((transmitting 0 0).Clocked ∧ (transmitting 0 0).access.transmission = .frame .urgent [1]) ∧
      (let s := atLine { access .standoff .rest 0 with standoffDeadline := some 999 }
       s.power.running = true ∧ s.access.state = .standoff ∧ s.access.standoffDeadline = some 999 ∧ s.Unobstructed 999) :=
  ⟨fun _ _ => ⟨⟨rfl, rfl⟩, ⟨rfl, rfl, rfl⟩, rfl, rfl, rfl, rfl⟩, ⟨⟨rfl, rfl⟩, rfl⟩, rfl, rfl, rfl,
    .inr ⟨by decide, State.passesNone_iff.1 (by decide +kernel)⟩⟩

theorem witness_PaceHoldAbortsAFrameAndGoRestores :
    let s := transmitting 0 0
    let u := atLine (access .reserved .rest 16)
    (s.power.running = true ∧ s.access.pace = .go ∧ s.access.transmission = .frame .urgent [1] ∧
        s.access.state = .sending) ∧
      (u.power.running = true ∧ u.access.pace = .go ∧ u.access.state ≠ .sending) ∧
      ({ access .idle .rest 0 with pace := .hold } : Access).pace = .hold := by decide +kernel

theorem witness_TrunkClockLossAndReturn :
    (staged .frame [1]).Busy ∧ (staged .escaped [1]).Busy ∧ (staged .frame [1]).access.clockDeadline = some 1 ∧
      (staged .frame [1]).Unobstructed 1 ∧
      (let s := atLine { access .listen .frame 7 with clockDeadline := none }
       s.power.running = true ∧ s.access.clockDeadline = none) :=
  ⟨⟨rfl, rfl, rfl⟩, ⟨rfl, rfl, rfl⟩, rfl, .inr ⟨by decide, State.passesNone_iff.1 (by decide +kernel)⟩, rfl, rfl⟩

/-! ### The Shop Port and the Flow Classifier -/

theorem shopFrame_split (p c : List Byte) (h : c.length = 4) :
    (p ++ c).take ((p ++ c).length - 4) = p := by
  simp [h]

theorem witness_ShopFrameIsDroppedAndCounted_bad :
    busy.power.running = true ∧ (busy.shop.receive ++ List.replicate 63 0).length < 64 ∧
      1522 < (busy.shop.receive ++ List.replicate 1523 0).length ∧
      (let f := busy.shop.receive ++ (stockFile ++ [0, 0, 0, 0])
       f.length = 64 ∧ f.drop (f.length - 4) ≠ [1, 2, 3, 4]) := by
  refine ⟨rfl, ?_, ?_, ?_⟩ <;> decide +kernel

set_option maxRecDepth 100000 in
theorem witness_ShopFrameIsDroppedAndCounted_classified :
    let f := shopFrameOctets stockFile
    shopFramePasses f false = true ∧ f.take (f.length - 4) = stockFile ∧ protecting.shop.receive = [] ∧
      protecting.management.serviceOn = true ∧ busy.management.serviceOn = false ∧
      (∀ i : Fin 48, (busy.flowEntry i).accepts (parseFrame stockFile) = false) ∧
      (protecting.flowEntry 2).accepts (parseFrame stockFile) = true ∧
      (∀ j : Fin 48, j < 2 → (protecting.flowEntry j).accepts (parseFrame stockFile) = false) ∧
      (protecting.flowEntry 2).action ≠ 0 ∧ defaultFlowEntry.action = 0 ∧ (protecting.flowEntry 2).association.toNat = 3 := by
  decide +kernel

set_option maxRecDepth 100000 in
theorem witness_ProtectedShopFrameJoinsTheOutboundQueue :
    protecting.Busy ∧ protecting.management.serviceOn = true ∧
      shopFramePasses (protecting.shop.receive ++ shopFrameOctets stockFile) false = true ∧
      (protecting.flowEntry 2).action = 1 ∧ (protecting.assoc 3).state = .live ∧ (protecting.assoc 3).direction = .both ∧
      protecting.engine.outbound.length < 16 :=
  ⟨⟨rfl, rfl, rfl⟩, rfl, by decide +kernel, by decide +kernel, by decide +kernel, by decide +kernel, by decide +kernel⟩

theorem witness_ShopTransmissionStartsAndEnds :
    (sendingShop .idle).power.running = true ∧ (sendingShop .idle).shop.transmit = .idle ∧
      (sendingShop .idle).shop.delivery = stockFile :: [[1]] ∧ (sendingShop (.sending [7])).shop.transmit = .sending [7] ∧
      (sendingShop (.sending [7])).shop.transmit ≠ .idle ∧ busy.shop.delivery = [] ∧
      (sendingShop (.sending [7])).shop.delivery = stockFile :: [1] :: [] ∧ [stockFile].length ≤ 1 := by decide +kernel

/-! ### The Cipher Engine -/

/-- Association 3 with an outbound item of 60 octets that fits its hard limit exactly. -/
def fitting (hard : W32) (exhausted : Bool) : State :=
  holding
    { keyed .live with
      policy := { defaultPolicy .bulk with hardLimit := hard }
      bankA := { installedBank .active 1 0 with wear := 999990, exhausted := exhausted } }

/-- An outbound item of 60 octets. -/
def outItem : OutItem := { assoc := 3, plaintext := stockFile, restartMark := false, setsMark := false }

theorem fitting_inOrder (h : W32) (e : Bool) : ((fitting h e).assoc outItem.assoc).BanksInOrder := by
  have : (fitting h e).assoc outItem.assoc =
      { keyed .live with
        policy := { defaultPolicy .bulk with hardLimit := h }
        bankA := { installedBank .active 1 0 with wear := 999990, exhausted := e } } := by
    simp [fitting, holding, State.assoc, outItem]
  rw [this]
  refine ⟨?_, ?_, ?_⟩ <;> simp [keyed, defaultAssoc, installedBank, emptyBank]

theorem witness_OutboundAdmissionBindsTheItem :
    let w := frameCost outItem.plaintext.length
    let r := (fitting 1000000 false).assoc 3
    let x := (fitting 999999 true).assoc 3
    ((r.bank .bankA).state = .active ∧ r.state = .live ∧ r.direction ≠ .inbound ∧ (r.bank .bankA).nextSequence ≠ 4294967295 ∧
        (r.bank .bankA).wear.toNat + w = r.policy.hardLimit.toNat) ∧
      (x.state = .live ∧ x.policy.hardLimit.toNat + 1 = (x.bank .bankA).wear.toNat + w ∧ (x.bank .bankA).exhausted = true) ∧
      (((fitting 999999 false).assoc 3).bank .bankA).exhausted = false ∧ (keyed .suspended).state ≠ .live ∧
      (∀ a ∈ [State.reset.assoc 3, { State.reset.assoc 3 with state := .pending }, { defaultAssoc 3 with state := .live }],
        ∀ b ∈ [BankId.bankA, .bankB], (a.bank b).state ≠ .active) := by decide +kernel

theorem witness_OutboundAdmissionBindsTheItem_inbound :
    let i : InItem := { item with ciphertext := stockFile }
    let w := frameCost i.ciphertext.length
    let k := ((fitting 1000000 false).assoc i.assoc).bank i.bank
    k.state = .active ∧ k.generation = i.generation ∧ k.wear.toNat + w = 1000000 ∧ 999999 < k.wear.toNat + w ∧
      k.generation ≠ { i with generation := 2 }.generation ∧ (keyed .live).direction ≠ .outbound ∧
      (keyed .suspended).state ≠ .live := by decide +kernel

/-- A part whose key under association 0 has the given wear, and whose association 3 is as given, in transaction. -/
def offering (r : Assoc) (wear hard : W32) : State :=
  { holding { r with transaction := some transaction } with
    assocs := (holding { r with transaction := some transaction }).assocs.set 0
      { defaultAssoc 0 with
        state := .live, policy := { defaultPolicy .control with hardLimit := hard }
        bankA := { installedBank .active 1 0 with wear := wear } } }

theorem witness_OutboundAdmissionBindsTheItem_unwrap :
    ∀ r ∈ [{ keyed .live with inFlight := 1 }, { keyed .closing with inFlight := 1 }, { keyed .closing with inFlight := 2 },
        { due with inFlight := 1 }, { due with inFlight := 1, renewDeadline := some 5 }],
      (let s := offering r 94 100
       let k := (s.assoc 0).bank unwrapItem.bank
       k.state = .active ∧ k.generation = unwrapItem.bankGeneration ∧
        k.wear.toNat + 6 = (s.assoc 0).policy.hardLimit.toNat ∧
        (s.assoc unwrapItem.target).transaction = some transaction ∧
        { unwrapItem with bankGeneration := 2 }.bankGeneration ≠ k.generation) ∧
        (let s := offering r 95 100
         (s.assoc 0).policy.hardLimit.toNat + 1 = ((s.assoc 0).bank unwrapItem.bank).wear.toNat + 6) := by decide +kernel

/-- R6, R58, R103: the refusal of the last work of a CLOSING association leaves it VACANT. -/
theorem test_refusedUnwrap_vacates :
    let s := offering { keyed .closing with inFlight := 1 } 94 100
    ((s.admitUnwrap { unwrapItem with bankGeneration := 2 }).assoc 3).state = .vacant := by decide +kernel

/-- R103, R114: the RENEW_REQUEST of a target that becomes due follows the REFUSED answer. -/
theorem test_refusedUnwrap_due :
    let t := (offering { due with inFlight := 1 } 94 100).admitUnwrap { unwrapItem with bankGeneration := 2 }
    t.engine.outbound.map (fun o => (octetAt o.plaintext 0, octetAt o.plaintext 4)) = [(0xA0, 5), (0x61, 3)] := by
  decide +kernel

theorem witness_OutboundAdmissionBindsTheItem_arbiter :
    let e := busy.engine
    (busy.engine.current.isSome = true ∧ running.engine.current = none ∧
        { e with unwrap := [unwrapItem] }.unwrap = unwrapItem :: [] ∧ e.unwrap = [] ∧ e.inbound = [] ∧
        { e with inbound := [item] }.inbound = item :: [] ∧ { e with outbound := [outItem] }.outbound = outItem :: [] ∧
        e.lastServed = .outbound ∧ { e with lastServed := .inbound }.lastServed = .inbound) ∧
      (let traffic (n : Nat) : List ReservedPlace := List.replicate n { place := .urgent, restartMark := false }
       ((traffic 27).filter (fun p => p.place != .control)).length < 28 ∧ (traffic 31).length < 32 ∧
        ¬(traffic 32).length < 32 ∧ ¬((traffic 28).filter (fun p => p.place != .control)).length < 28) := by decide +kernel

/-- A part with nothing waiting and an item in its engine, association 3 as given. -/
def engaged (c : InProgress) (r : Assoc) : State :=
  { holding r with
    engine := { busy.engine with current := some c }
    sendQueue := { busy.sendQueue with reserved := [{ place := .urgent, restartMark := false }] } }

theorem engaged_nothingWaits (c : InProgress) (r : Assoc) : (engaged c r).NothingWaits := ⟨rfl, rfl, rfl, rfl, rfl⟩

theorem witness_OutboundCompletionFillsOrFreesThePlace :
    ∀ p ∈ [(AssocState.live, 1), (.suspended, 1), (.closing, 2), (.closing, 1)], ∀ w ∈ [BankState.active, .retiring],
      ∀ n ∈ [1, 2],
        let s := engaged (.outbound 3 .bankA .urgent sealed)
          { keyed p.1 with inFlight := p.2, bankA := { installedBank w 1 0 with inUse := n } }
        s.engine.current = some (.outbound 3 .bankA .urgent sealed) ∧
          s.sendQueue.reserved = [{ place := .urgent, restartMark := false }] ∧ (s.assoc 3).state = p.1 ∧
          (s.assoc 3).inFlight = p.2 ∧ (s.bank 3 .bankA).state = w ∧ (s.bank 3 .bankA).inUse = n := by decide +kernel

theorem witness_InboundCompletionDecidesTheFrame :
    let s := engaged (.inbound item [9] []) (keyed .live)
    let r := s.assoc item.assoc
    (s.power.running = true ∧ s.engine.outbound = [] ∧ s.engine.inbound = [] ∧ s.engine.unwrap = [] ∧
        s.management.inbox = []) ∧
      s.engine.current = some (.inbound item [9] []) ∧ item.assoc ≠ 0 ∧ r.state = .live ∧ (keyed .suspended).state = .suspended ∧
      [] = item.tag ∧ [1] ≠ item.tag ∧ (r.bank item.bank).accepts item.sequence = true ∧
      ((r.bank item.bank).mark 1).accepts item.sequence = false ∧ (r.bank item.bank).state ≠ .fresh ∧
      (List.replicate 15 ([] : List Byte)).length < 16 ∧ 16 ≤ (List.replicate 16 ([] : List Byte)).length ∧
      ((keyed .closing).state = .closing ∧ (keyed .live).state ≠ .closing ∧ 1 < { keyed .closing with inFlight := 2 }.inFlight ∧
        { keyed .closing with inFlight := 1 }.inFlight ≤ 1) := by decide +kernel

/-- Messages wait while an answer is outstanding, which waits for a place of the Trunk Send Queue, and a frame of channel 0
is in the engine. -/
def crowded (n : Nat) : State :=
  { engaged (.inbound { item with assoc := 0 } [9] []) (keyed .live) with
    engine :=
      { busy.engine with
        current := some (.inbound { item with assoc := 0 } [9] [])
        outbound := [{ assoc := 0, plaintext := [0x81, 7, 0, 0, 0], restartMark := false, setsMark := true }] }
    sendQueue := { busy.sendQueue with control := List.replicate 32 sealed }
    management :=
      { busy.management with inbox := List.replicate n { octets := [], via := via }, answerOutstanding := true } }

theorem witness_InboundCompletionDecidesTheFrame_management :
    ∀ n ∈ [0, 3, 4], let s := crowded n
      let r := s.assoc 0
      (s.power.running = true ∧ s.engine.inbound = [] ∧ s.engine.unwrap = [] ∧ s.engine.outbound ≠ [] ∧
          32 ≤ s.sendQueue.taken) ∧
        s.engine.current = some (.inbound { item with assoc := 0 } [9] []) ∧ s.management.answerOutstanding = true ∧
        s.management.inbox.length = n ∧ r.state = .live ∧ (r.bank .bankA).accepts item.sequence = true ∧
        (r.bank .bankA).state ≠ .fresh := by decide +kernel

/-- A frame of channel 0 under generation 1 of bank A that carries an ECHO. -/
theorem witness_InboundCompletionDecidesTheFrame_message :
    let i : InItem := { item with assoc := 0 }
    let m := echoMessage { bank := .bankA, generation := 1, sequence := 1 } 7 [1]
    let s := engaged (.inbound i m.octets []) (keyed .live)
    s.power.running = true ∧ s.engine.current = some (.inbound i m.octets []) ∧ (s.assoc 0).state = .live ∧
      i.tag = [] ∧ (s.bank 0 i.bank).accepts i.sequence = true ∧ (s.bank 0 i.bank).state ≠ .fresh ∧
      messageOf (.echo { bank := .bankA, generation := 1, sequence := 1 } 7 [1]) =
        some { octets := m.octets,
               via := { bank := i.bank, generation := (s.bank 0 i.bank).generation, sequence := i.sequence } } := by
  decide +kernel

theorem renewed_sound :
    ({ keyed .live with bankA := installedBank .active 30 0, bankB := installedBank .fresh 31 0 } : Assoc).Sound := by
  refine ⟨⟨?_, ?_, ?_⟩, ?_, ?_, ?_, ?_, ?_⟩ <;> simp [keyed, defaultAssoc, installedBank, emptyBank, Assoc.bank, Bank.WithinLimit]

theorem witness_AcceptedFrameUnderAFreshBankPromotesIt :
    let i : InItem := { item with bank := .bankB, generation := 31 }
    (renewing.assoc i.assoc).Sound ∧ (renewing.assoc i.assoc).state = .live ∧ (renewing.bank i.assoc i.bank).state = .fresh ∧
      (renewing.bank i.assoc i.bank).accepts i.sequence = true := by
  have h : renewing.assoc 3 =
      { keyed .live with bankA := installedBank .active 30 0, bankB := installedBank .fresh 31 0 } := by
    simp [renewing, atTime, holding, State.assoc]
  refine ⟨?_, ?_⟩
  · show (renewing.assoc 3).Sound
    rw [h]; exact renewed_sound
  · decide +kernel

/-- An association with a FRESH bank B of the given wear, an item bound to it, and the given renew-request timer. -/
def promotable (wear : W32) (timer : Option Nat) : Assoc :=
  { keyed .live with
    policy := { defaultPolicy .bulk with softLimit := 10 }
    bankA := installedBank .active 30 0
    bankB := { installedBank .fresh 31 0 with wear := wear, inUse := 1 }
    inFlight := 1
    renewDeadline := timer }

theorem promotable_sound (wear : W32) (timer : Option Nat) : (promotable wear timer).Sound := by
  refine ⟨⟨?_, ?_, ?_⟩, ?_, ?_, ?_, ?_, ?_⟩ <;>
    simp [promotable, keyed, defaultAssoc, defaultPolicy, installedBank, emptyBank, Assoc.bank, Bank.WithinLimit]
  exact Nat.le_of_lt_succ wear.isLt

/-- The frame of channel `a` under that FRESH bank. -/
def second (a : AssocId) : InItem := { item with assoc := a, bank := .bankB, generation := 31 }

/-- That frame is in the engine with the given plaintext, and `n` filled places of the Trunk Send Queue. -/
def promoting (a : AssocId) (r : Assoc) (plaintext : List Byte) (n : Nat) : State :=
  { everywhere r with
    engine := { busy.engine with current := some (.inbound (second a) plaintext []) }
    sendQueue := { busy.sendQueue with control := List.replicate n sealed }
    management := { busy.management with answerOutstanding := true } }

/-- The association as decided by the completion that promotes its bank B, at second 0. -/
def promotedB (r : Assoc) : Assoc :=
  { r with
    bankA := { r.bankA with state := .draining, drainDeadline := some r.policy.drainPeriod.toNat }
    bankB := { r.bankB.mark 1 with state := .active, nextSequence := 1, keyAge := 0, inUse := r.bankB.inUse - 1 }
    selector := .bankB, monitorRenewal := false, inFlight := r.inFlight - 1, quiet := 0
    counters := r.counters.set AssocCounter.deciphered.index (satInc r.counters[AssocCounter.deciphered.index]) }

theorem witness_AcceptedFrameUnderAFreshBankPromotesIt_completion :
    ∀ p ∈ [((0 : W32), (none : Option Nat), 0), (10, none, 0), (10, none, 32), (10, some 60, 0)], ∀ a ∈ [(0 : AssocId), 3],
      let r := promotable p.1 p.2.1
      let m := echoMessage { bank := .bankB, generation := 31, sequence := 1 } 7 [1]
      let s := promoting a r m.octets p.2.2
      (s.assoc a).Sound ∧ (s.power.running = true ∧ s.engine.current = some (.inbound (second a) m.octets []) ∧
        (s.assoc a).state = .live ∧ (s.bank a .bankB).state = .fresh ∧
        (s.bank a .bankB).accepts (second a).sequence = true ∧ (second a).tag = [] ∧
        (s.engine.inbound = [] ∧ s.engine.unwrap = [] ∧ s.engine.outbound = [] ∧ s.management.inbox = [] ∧
          s.management.answerOutstanding = true ∧ s.shop.delivery.length < 16) ∧
        ((promotedB r).isDue = decide (p.1 = 10) ∧ (s.assoc a).renewDeadline = p.2.1 ∧ s.sendQueue.taken = p.2.2) ∧
        messageOf (.echo { bank := .bankB, generation := 31, sequence := 1 } 7 [1]) =
          some { octets := m.octets,
                 via := { bank := .bankB, generation := (s.bank a .bankB).generation, sequence := (second a).sequence } } ∧
        ((s.assoc 0).state = .live ∧ (s.assoc 0).direction = .both ∧ ((s.assoc 0).bank .bankA).state = .active ∧
          ((s.assoc 0).bank .bankA).nextSequence ≠ 4294967295 ∧
          ((s.assoc 0).bank .bankA).wear.toNat + 6 ≤ (s.assoc 0).policy.hardLimit.toNat)) := by
  intro p hp a ha
  refine ⟨?_, ?_⟩
  · show ((everywhere (promotable p.1 p.2.1)).assoc a).Sound
    rw [everywhere_assoc]; exact promotable_sound _ _
  · revert p a; decide +kernel

theorem witness_UnwrapCompletionInstallsTheKey :
    ∀ passes : Bool, ∀ p ∈ [(keyed .live, 1), (keyed .suspended, 1), (keyed .closing, 1), (keyed .closing, 2),
        ({ keyed .pending with bankA := emptyBank }, 1), ({ keyed .live with bankB := installedBank .fresh 5 0 }, 1),
        ({ keyed .live with bankB := installedBank .draining 5 0 }, 1)],
      let r : Assoc := { p.1 with transaction := some transaction, inFlight := p.2 }
      let s : State := engaged (.unwrap unwrapItem 77 passes) r
      s.NothingWaits ∧ s.engine.current = some (.unwrap unwrapItem 77 passes) ∧ unwrapItem.target ≠ 0 ∧
        (s.assoc unwrapItem.target).Sound ∧ (s.assoc unwrapItem.target).transaction = some transaction := by
  intro passes p hp
  have h : ∀ r : Assoc, (engaged (.unwrap unwrapItem 77 passes) r).assoc 3 = r := by
    intro r; simp [engaged, holding, State.assoc]
  refine ⟨engaged_nothingWaits _ _, rfl, by decide, ?_, by rw [show unwrapItem.target = 3 from rfl, h]⟩
  rw [show unwrapItem.target = 3 from rfl, h]
  simp only [List.mem_cons, List.not_mem_nil, or_false] at hp
  obtain rfl | rfl | rfl | rfl | rfl | rfl | rfl := hp <;>
    (refine ⟨⟨?_, ?_, ?_⟩, ?_, ?_, ?_, ?_, ?_⟩ <;>
      simp [keyed, defaultAssoc, installedBank, emptyBank, Assoc.bank, Bank.WithinLimit])

/-- The premises of what an unwrap completion comes to: its outcomes, and a part without control room. -/
theorem witness_UnwrapCompletionInstallsTheKey_outcomes :
    (∀ w ∈ [BankState.empty, .fresh, .draining, .retiring],
      let r : Assoc := { keyed .live with bankB := installedBank w 5 0, transaction := some transaction, inFlight := 1 }
      let s : State := engaged (.unwrap unwrapItem 77 true) r
      (s.assoc unwrapItem.target).transaction = some transaction ∧ (s.assoc unwrapItem.target).state = .live ∧
        ((s.assoc unwrapItem.target).bank .bankA).state = .active ∧
        ((s.assoc unwrapItem.target).bank (otherBank .bankA)).state = w) ∧
      (∀ b, ((({ keyed .pending with bankA := emptyBank } : Assoc).bank b).state ≠ .active)) ∧
      (∀ passes : Bool,
        let s : State := engaged (.unwrap unwrapItem 77 passes) { keyed .closing with transaction := some transaction }
        let full : State :=
          { s with
            sendQueue :=
              { s.sendQueue with reserved := List.replicate 32 { place := .control, restartMark := false } } }
        full.NothingWaits ∧ full.engine.current = some (.unwrap unwrapItem 77 passes) ∧ 32 ≤ full.sendQueue.taken ∧
          (full.assoc unwrapItem.target).state = .closing ∧
          (full.assoc unwrapItem.target).transaction = some transaction) := by
  refine ⟨by decide +kernel, fun b => by cases b <;> decide, fun passes => ⟨⟨rfl, rfl, rfl, rfl, rfl⟩, rfl, ?_⟩⟩
  cases passes <;> decide +kernel

/-- R9, R46, R47, R48: the blocks given to E, octet by octet as the table of 11_formats_at_the_line lays them out. -/
theorem test_cipherBlocks :
    counterBlock 3 sentDirection 0x0102 0x03040506 7 = 0x030F0102030405060000000000000007 ∧
      counterBlock 3 receivedDirection 0x0102 0x03040506 7 = 0x03F00102030405060000000000000007 ∧
      unwrapBlock { unwrapItem with generation := 0x0102, sequence := 0x03040506 } 2 = 0x035A0102030405060000000000000002 ∧
      wrapHeaderBlock { unwrapItem with generation := 0x0102, sequence := 0x03040506 } =
        0x035A0102030405060020000000000000 ∧
      lengthBlock 0x05EE = 0x05EE0000000000000000000000000000 ∧
      derivationBlock 0x0A0B0C0D0E0F 0x0102 1 = 0x0A0B0C0D0E0F01020100000000000000 ∧
      blockOf [1, 2, 3] = 0x01020300000000000000000000000000 := by decide +kernel

/-- R104: a failed wrap check counts WRAP_REJECT and hands its report over. -/
theorem test_unwrapCompletion_reject :
    let s : State := unwrapping .live false
    (s.wrapReject 3).reports.records.map (fun r => (r.kind, r.severity, r.source, r.value)) =
      [(.wrapReject, 3, .association 3, none)] ∧ (s.wrapReject 3).stationCount .wrapReject = 1 := by decide +kernel

/-- The association 0 of a part that runs, for the answer of an unwrap completion. -/
theorem witness_UnwrapCompletionInstallsTheKey_answer :
    let s := everywhere (keyed .live)
    { s.reports with pacingDeadline := some 100 }.pacingDeadline.isSome = true ∧ s.sendQueue.taken < 32 ∧ (s.assoc 0).Sound ∧ (s.assoc 0).state = .live ∧ (s.assoc 0).direction = .both ∧
      ((s.assoc 0).bank .bankA).state = .active ∧ ((s.assoc 0).bank .bankA).nextSequence ≠ 4294967295 ∧
      ((s.assoc 0).bank .bankA).wear.toNat + 4 ≤ (s.assoc 0).policy.hardLimit.toNat := by
  simp only [everywhere_assoc]
  refine ⟨rfl, by decide, keyed_sound, ?_⟩
  decide

/-! ### Management -/

theorem witness_MessagesAreCheckedAndEchoed :
    (CarriesMessage (.restart via 7) ∧ (running.assoc 0).state ≠ .live) ∧
      busy.Listening ∧ (List.replicate 64 (0 : Byte)).length ≤ 64 ∧ 64 < (List.replicate 65 (0 : Byte)).length ∧
      (∀ n ∈ [3, 513], (List.replicate n (0 : Byte)).length < 4 ∨ 512 < (List.replicate n (0 : Byte)).length) ∧
      (word16At ([0x3F, 1, 0, 0] : List Byte) 2).toNat = ([0x3F, 1, 0, 0] : List Byte).length - 4 ∧
      (word16At ([0x44, 1, 0, 0] : List Byte) 2).toNat = ([0x44, 1, 0, 0] : List Byte).length - 4 ∧
      { busy.management with restartTakenAt := some 0 }.restartTakenAt.isSome = true ∧ busy.management.restartTakenAt = none :=
  ⟨⟨rfl, by decide +kernel⟩, busy_isAttentive.listening, by decide, by decide, by decide +kernel, by decide, by decide,
    rfl, rfl⟩

theorem witness_TableReadAnswersTheEntries :
    (returning.reports.records.length ≤ 2 ∧ busy.reports.records.length ≤ 0 ∧
        returning.reports.records[0]? = some (record 41 .inFlight 3)) ∧
      busy.Attentive ∧ (0 : Byte).toNat = 0 ∧ 16 < (17 : Byte).toNat ∧ 10 < (11 : Byte).toNat ∧
      (let counts := [48, 32, 32, 16, 16, 1, 32, 1, 1, 24]
       let sizes := [20, 20, 60, 24, 16, 8, 36, 60, 12, 24]
       counts[(1 : Byte).toNat - 1]? = some 48 ∧ sizes[(1 : Byte).toNat - 1]? = some 20 ∧
        counts[(10 : Byte).toNat - 1]? = some 24 ∧ sizes[(10 : Byte).toNat - 1]? = some 24) ∧
      (48 < (33 : Byte).toNat + (16 : Byte).toNat ∧ (32 : Byte).toNat + (16 : Byte).toNat ≤ 48) :=
  ⟨by decide +kernel, busy_isAttentive, by decide, by decide, by decide, by decide, by decide⟩

theorem witness_TableWritesAreCheckedInOrder :
    busy.Attentive ∧ (∃ c : Instr, (1 : Byte) = 1 ∧ c = .tableWriteFlow via 1 47 1 (List.replicate 20 1)) ∧
      504 < (List.replicate 505 (0 : Byte)).length ∧ (List.replicate 504 (0 : Byte)).length ≤ 504 ∧ 10 < (11 : Byte).toNat ∧
      (3 : Byte).toNat ∈ [3, 5, 7, 8, 9, 10] ∧ ((0 : Byte).toNat = 0 ∧ 8 < (9 : Byte).toNat) ∧
      (List.replicate 20 (1 : Byte)).length = (1 : Byte).toNat * 20 ∧ 48 < (48 : Byte).toNat + (1 : Byte).toNat ∧
      (47 : Byte).toNat + (1 : Byte).toNat ≤ 48 ∧
      (∃ k, k < (1 : Byte).toNat ∧
        (octetAt (entryAt 20 (List.replicate 20 (1 : Byte) ) k) 0 ≠ 0 ∧
          31 < (octetAt (entryAt 20 ([1, 1, 32] ++ List.replicate 17 (0 : Byte)) k) 2).toNat)) ∧
      (∃ k, k < (1 : Byte).toNat ∧ 2 < (octetAt (entryAt 20 (List.replicate 20 (3 : Byte)) k) 0).toNat) ∧
      (∃ k, k < (1 : Byte).toNat ∧ 1 < (octetAt (entryAt 24 (List.replicate 24 (2 : Byte)) k) 1).toNat) :=
  ⟨busy_isAttentive, ⟨_, rfl, rfl⟩, by decide +kernel, by decide +kernel, by decide, by decide, by decide, by decide, by decide, by decide,
    ⟨0, by decide⟩, ⟨0, by decide⟩, ⟨0, by decide⟩⟩

theorem witness_FlowAndSettingsWritesStore :
    let e : List Byte := [1, 1, 31, 0, 0x0F, 0xFE] ++ List.replicate 14 0
    busy.Attentive ∧ 1 ≤ (1 : Byte).toNat ∧ (8 : Byte).toNat ≤ 8 ∧ e.length = 20 * (1 : Byte).toNat ∧
      (47 : Byte).toNat + (1 : Byte).toNat ≤ 48 ∧
      (∀ k, k < (1 : Byte).toNat →
        let x := entryAt 20 e k
        octetAt x 0 = 0 ∨
          (laneMatchCoded (word16At x 4) = true ∧ (octetAt x 1).toNat ≤ 1 ∧ 1 ≤ (octetAt x 2).toNat ∧
            (octetAt x 2).toNat ≤ 31)) ∧
      (List.replicate 8 (0 : Byte)).length = 8 :=
  ⟨busy_isAttentive, by decide, by decide, by decide, by decide, by decide, rfl⟩

/-- An ASSOC_CONFIG entry of class BULK with the given soft limit. -/
def policyEntry (soft : W32) : List Byte :=
  [0, 2, 0, 0] ++ word 4 soft ++ word 4 (4294967295 : W32) ++ word 4 (0 : W32) ++ [20, 60, 0, 0]

theorem witness_PolicyWriteStoresAndEvaluates_kept :
    let p := { defaultPolicy .bulk with softLimit := 5 }
    let written : Assoc := { busy.assoc 31 with policy := clampPolicy 31 (busy.assoc 31) p }
    busy.Attentive ∧ (policyEntry 5).length = 20 * (1 : Byte).toNat ∧ (31 : Byte).toNat + (1 : Byte).toNat ≤ 32 ∧
      policyOfOctets 31 (entryAt 20 (policyEntry 5) 0) = some p ∧ written.isDue = false :=
  ⟨busy_isAttentive, by decide, by decide, by decide, by decide +kernel⟩

theorem witness_PolicyWriteStoresAndEvaluates_due :
    let p := { defaultPolicy .bulk with softLimit := 5 }
    let s := holding { keyed .live with bankA := { installedBank .active 1 0 with wear := 5 } }
    let r : Assoc := { s.assoc 3 with policy := clampPolicy 3 (s.assoc 3) p }
    s.Attentive ∧ (3 : Byte).toNat = (3 : AssocId).val ∧ (policyEntry 5).length = 20 ∧ policyOfOctets 3 (policyEntry 5) = some p ∧
      r.isDue = true ∧ r.renewDeadline = none ∧ r.activeBank = some .bankA ∧ s.engine.outbound.length ≤ 14 ∧
      s.sendQueue.taken < 32 :=
  ⟨⟨⟨⟨rfl, rfl, rfl⟩, rfl, rfl⟩, rfl⟩, by decide, by decide, by decide, by decide +kernel, by decide +kernel, by decide +kernel,
    by decide +kernel, by decide +kernel⟩

theorem witness_MonitorWriteRestartsItsMonitors :
    let e : List Byte := [1, 0, 2, 2, 2, 0, 45, 2, 0, 0, 3, 1, 2, 0, 0, 0] ++ word 4 (8 : W32) ++ word 4 (3 : W32)
    busy.Attentive ∧ 1 ≤ (1 : Byte).toNat ∧ (8 : Byte).toNat ≤ 8 ∧ e.length = 24 * (1 : Byte).toNat ∧
      (15 : Byte).toNat + (1 : Byte).toNat ≤ 16 ∧ monitorOfOctets (entryAt 24 e 0) = some rateConfig :=
  ⟨busy_isAttentive, by decide, by decide, by decide, by decide, by decide⟩

theorem witness_AssociationsOpenCloseAndResume :
    (∀ r, (holding r).Attentive) ∧ 31 < (32 : Byte).toNat ∧ (31 : Byte).toNat = (31 : AssocId).val ∧
      (0 : Byte).toNat = (0 : AssocId).val ∧
      (∀ st ∈ [AssocState.vacant, .pending, .live, .suspended, .closing],
        ((holding (keyed st)).assoc 3).state = st ∧ ((holding { keyed st with inFlight := 1 }).assoc 3).inFlight = 1 ∧
          ((holding (keyed st)).assoc 3).inFlight = 0) :=
  ⟨holding_isAttentive, by decide, by decide, by decide, by decide +kernel⟩

theorem witness_KeyOfferChecksThenBegins :
    (∀ r, (holding r).Attentive) ∧ 31 < (32 : Byte).toNat ∧ (3 : Byte).toNat = (3 : AssocId).val ∧
      (∀ st, (keyed st).BanksInOrder) ∧ (keyed .vacant).state = .vacant ∧ (keyed .live).state = .live ∧
      ({ keyed .live with transaction := some transaction } : Assoc).transaction.isSome = true ∧
      (keyed .live).transaction = none ∧
      ((keyed .live).bank .bankA).generation.toNat < (2 : W16).toNat ∧ ((keyed .live).bank .bankB).state = .empty ∧
      ¬((keyed .live).bank .bankA).generation.toNat < (1 : W16).toNat ∧
      (renewing.bank 3 .bankB).state = .fresh ∧ (renewing.bank 3 .bankB).generation = 31 ∧
      (let r : Assoc := { keyed .live with bankB := installedBank .retiring 0 0 }
       (r.bank .bankA).state = .active ∧ (r.bank (otherBank .bankA)).state = .retiring) ∧
      4 ≤ (List.replicate 4 unwrapItem).length ∧ (List.replicate 3 unwrapItem).length < 4 :=
  ⟨holding_isAttentive, by decide, by decide, keyed_inOrder, rfl, rfl, rfl, rfl, by decide, rfl, by decide,
    by decide +kernel, by decide +kernel, by decide, by decide, by decide⟩

theorem witness_KeySwitchAndWithdraw :
    let r : Assoc := { keyed .live with bankA := installedBank .active 30 0, bankB := installedBank .fresh 31 0 }
    (∀ r, (holding r).Attentive) ∧ r.BanksInOrder ∧ r.state = .live ∧ r.transaction = none ∧
      (r.bank .bankB).state = .fresh ∧ (r.bank .bankB).generation = 31 ∧ (r.bank .bankB).generation ≠ 30 ∧
      (r.bank .bankA).state = .active ∧ (r.bank .bankA).generation = 30 ∧ (r.bank .bankA).generation ≠ 29 ∧
      (r.bank .bankB).inUse = 0 ∧ { r.bank .bankB with inUse := 1 }.inUse ≠ 0 ∧
      ((keyed .live).bank .bankA).state ≠ .fresh ∧ ((keyed .live).bank .bankB).state ≠ .fresh :=
  ⟨holding_isAttentive, renewed_sound.banks, by decide, by decide, by decide, by decide, by decide,
    by decide, by decide, by decide, by decide, by decide, by decide, by decide⟩

theorem witness_ClearServiceAndRestartAreTaken :
    busy.Attentive ∧ 15 < (16 : Byte).toNat ∧ (15 : Byte).toNat = (15 : MonitorId).val ∧
      ((watching { defaultMonitor with state := .fired }).monitor 3).state = .fired ∧ (busy.monitor 3).state ≠ .fired ∧
      (1 : Byte).toNat ≤ 1 ∧ 1 < (2 : Byte).toNat :=
  ⟨busy_isAttentive, by decide, by decide, by decide +kernel, by decide +kernel, by decide, by decide⟩

theorem witness_ReportAckRemovesItsRecords :
    returning.Attentive ∧ 1 ≤ [(41 : W16)].length ∧ (List.replicate 8 (41 : W16)).length ≤ 8 ∧
      (let kept (l : List W16) := returning.reports.records.filter (fun x => !l.contains x.number)
       returning.reports.records.length - (kept [9]).length = 0 ∧ returning.reports.records.length - (kept [41]).length ≠ 0) :=
  ⟨⟨⟨⟨rfl, rfl, rfl⟩, rfl, rfl⟩, rfl⟩, by decide, by decide, by decide +kernel⟩

/-! ### Resets, time, monitors and reports -/

theorem witness_ResetsHoldThePart :
    (let s : State := { atTime busy 500 0 with management := { busy.management with restartTakenAt := some 499 } }
     let u := atTime s 2498 2
     u.power.running = true ∧ u.management.restartTakenAt = some 499 ∧ u.Unobstructed (499 + 2000)) ∧
      (let p : PowerState := { busy.power with powerPresent := true, brownoutPresent := true, pinPresent := true }
       p.powerPresent = true ∧ p.brownoutPresent = true ∧ p.pinPresent = true) :=
  ⟨⟨rfl, rfl, .inr ⟨.inl (by decide), State.passesNone_iff.1 (by decide +kernel)⟩⟩, rfl, rfl, rfl⟩

theorem witness_StartUpCompletesOrIsAbandoned :
    State.reset.power.running = false ∧ State.reset.power.anyPresent = false ∧
      { State.reset.provisioning with epoch := 65533 }.epoch.toNat < 65534 ∧
      65534 ≤ { State.reset.provisioning with epoch := 65534 }.epoch.toNat :=
  ⟨rfl, rfl, by decide, by decide⟩

theorem witness_SecondAgesTheKeysAndEvaluates :
    (∀ s ∈ [everywhere due, atTime (everywhere due) 4294967294000 4294967294, holding { due with renewDeadline := some 1 }],
      s.Busy ∧ s.MayTurn) ∧
      (quietSample.atSecond.Busy ∧ quietSample.atSecond.time.storeWaits = true) := by
  refine ⟨fun s hs => ?_, ⟨rfl, rfl, rfl⟩, rfl⟩
  simp only [List.mem_cons, List.not_mem_nil, or_false] at hs
  obtain rfl | rfl | rfl := hs <;>
    exact ⟨⟨rfl, rfl, rfl⟩, by decide, State.passesNone_iff.1 (by decide +kernel)⟩

theorem witness_SecondsTimersExpire :
    (∀ p ∈ [(20000, (20 : W32)), (19999, 19)],
      let r : Assoc := { keyed .live with bankB := { installedBank .draining 30 0 with drainDeadline := some 20 } }
      let s := atTime (holding r) p.1 p.2
      s.UnobstructedSecond 20 ∧ s.power.running = true ∧ (s.bank 3 .bankB).state = .draining ∧
        (s.bank 3 .bankB).drainDeadline = some 20 ∧ (s.bank 3 .bankB).inUse = 0 ∧ { r.bankB with inUse := 1 }.inUse ≠ 0) ∧
      (∀ p ∈ [(60000, (60 : W32)), (59000, 59)],
        let s := atTime (holding { due with renewDeadline := some 60 }) p.1 p.2
        s.UnobstructedSecond 60 ∧ s.power.running = true ∧ s.engine.current.isSome = true ∧ s.management.inbox = [] ∧
          (s.assoc 3).renewDeadline = some 60 ∧ (s.assoc 3).isDue = true ∧ (s.assoc 3).activeBank = some .bankA ∧
          (keyed .live).isDue = false ∧ s.engine.outbound.length < 16 ∧ s.sendQueue.taken < 32 ∧
          16 ≤ (List.replicate 16 outItem).length) ∧
      (∀ p ∈ [(120000, (120 : W32)), (119999, 119)],
        let s := atTime (watching (restartedMonitor fallConfig 30)) p.1 p.2
        s.UnobstructedSecond 120 ∧ s.power.running = true ∧ (s.monitor 3).state = .inhibited ∧
          (s.monitor 3).config.startupInhibit.toNat = 120) ∧
      ¬(atTime busy 18000 18).UnobstructedSecond 20 := by
  refine ⟨?_, ?_, ?_, ?_⟩
  · intro p hp
    exact ⟨State.secondExpires_iff.1 (by revert p; decide +kernel), by revert p; decide +kernel⟩
  · intro p hp
    exact ⟨State.secondExpires_iff.1 (by revert p; decide +kernel), by revert p; decide +kernel⟩
  · intro p hp
    exact ⟨State.secondExpires_iff.1 (by revert p; decide +kernel), by revert p; decide +kernel⟩
  · rw [← State.secondExpires_iff]; decide +kernel

/-- The part with monitor 3 due for a sample. -/
def sampling (r : Monitor) : State := atTime (watching { r with nextSample := some 50 }) 50000 50

theorem witness_samples (r : Monitor) :
    (sampling r).Busy ∧ (sampling r).monitor 3 = { r with nextSample := some 50 } ∧ (sampling r).UnobstructedSecond 50 := by
  refine ⟨⟨rfl, rfl, rfl⟩, ?_, .inl (show 50 ≤ (50 : W32).toNat by decide)⟩
  simp [sampling, atTime, watching, State.monitor]

/-- R124: a sample that comes before the Association Store takes the same second. -/
theorem witness_samples_early :
    quietSample.Busy ∧ (quietSample.monitor 3).nextSample = some 1 ∧ quietSample.UnobstructedSecond 1 ∧
      (quietSample.monitor 3).state = .clear ∧ (quietSample.monitor 3).config.mode = .level ∧
      quietSample.time.seconds = 0 :=
  ⟨⟨rfl, rfl, rfl⟩, by decide +kernel, State.secondExpires_iff.1 (by decide +kernel), by decide +kernel, by decide +kernel,
    rfl⟩

/-- A LEVEL monitor of SHOP_BAD, which is 0. -/
def levelMonitor (sense : Sense) (set clear : W32) (st : MonitorState) (latch : Latch) (count : Nat) : Monitor :=
  { defaultMonitor with
    config := { defaultMonitorConfig with sense := sense, setLevel := set, clearLevel := clear, persistence := 2, latch := latch }
    state := st, persistenceCount := count }

theorem witness_SampleMovesTheMonitor :
    ((restartedMonitor rateConfig 1000).state = .clear ∧ (restartedMonitor rateConfig 1000).baseline = false ∧
        rateConfig.mode ≠ .level) ∧
      (∀ r ∈ [levelMonitor .fall 0 1 .arming .none 0, levelMonitor .rise 1 0 .clear .none 0,
          levelMonitor .fall 0 1 .pending .none 0, levelMonitor .fall 0 1 .clear .none 0, levelMonitor .fall 0 1 .fired .none 0,
          levelMonitor .rise 1 0 .fired .hold 0, levelMonitor .fall 0 1 .fired .hold 0],
        r.config.mode = .level ∧ (sampling r).sourceValue r.config = 0) ∧
      (let v := defaultMonitorConfig.measure 0 0
       let rise := (levelMonitor .rise 1 0 .clear .none 0).config
       let fall := (levelMonitor .fall 0 1 .clear .none 0).config
       v = 0 ∧ rise.setHolds v = false ∧ rise.clearHolds v = true ∧ fall.setHolds v = true ∧ fall.clearHolds v = false ∧
        0 + 1 < fall.persistence.toNat ∧ v.toNat ≤ fall.setLevel.toNat) ∧
      (rateConfig.setLevel.toNat < (9 : W32).toNat) := by decide +kernel

theorem witness_SampleMovesTheMonitor_sources :
    (rateConfig.source = .association (.counter .tagFail) ∧ rateConfig.sourceAssoc.toNat = (2 : AssocId).val) ∧
      (let k := { rateConfig with source := .association .wearPct, sourceAssoc := 3 }
       k.sourceAssoc.toNat = (3 : AssocId).val ∧ ((holding (keyed .live)).assoc 3).activeBank = some .bankA ∧
        ((holding (keyed .live)).bank 3 .bankA).wear.toNat ≤ ((holding (keyed .live)).assoc 3).policy.hardLimit.toNat ∧
        (busy.assoc 3).activeBank = none) := by decide +kernel

theorem witness_SampleFiresAndClears :
    let r := levelMonitor .fall 0 1 .pending .none 1
    (r.config.mode = .level ∧ r.state = .pending ∧ r.config.setHolds 0 = true ∧
        r.config.persistence.toNat ≤ r.persistenceCount + 1 ∧ r.config.action = .note) ∧
      ({ r.config with action := .suspend, target := 3 }.action = .suspend ∧ (3 : AssocId) ≠ 0 ∧
        ((holding (keyed .live)).assoc 3).state = .live) ∧
      ({ r.config with action := .renew }.action = .renew) ∧
      (let c := levelMonitor .rise 1 0 .fired .none 2
       c.state = .fired ∧ c.config.latch = .none ∧ c.config.clearHolds 0 = true) := by decide +kernel

/-- A full queue: one UNSENT record of each severity 3 and 1, and 22 of severity 3 beside them. -/
def fullQueue : List ReportRecord :=
  [record 1 .unsent 3] ++ { record 2 .unsent 1 with kind := .monitorCleared } ::
    (List.range 22).map (fun n => { record (BitVec.ofNat 16 (n + 3)) .unsent 3 with
      source := .association (Fin.ofNat 32 n), kind := .keyExhausted })

theorem witness_ReportIsFoldedCreatedOrDropped :
    let x := record 45 .unsent 3
    (x.state = .unsent ∧ (returning.reports.records = [record 41 .inFlight 3] ++
        { x with firstTime := 11, lastTime := 11, value := some 12 } :: [])) ∧
      (∀ y ∈ fullQueue, ¬(y.state = .unsent ∧ y.kind = .trunkClock ∧ y.source = .absent)) ∧ fullQueue.length = 24 ∧
      (∀ y ∈ fullQueue, y.state = .unsent → (1 : Byte).toNat ≤ y.severity.toNat) ∧
      (∀ y ∈ [record 1 .unsent 3], y.state = .unsent → (1 : Byte).toNat < y.severity.toNat) ∧
      (1 : Byte).toNat < (3 : Byte).toNat ∧ returning.reports.records.length < 24 := by decide +kernel

theorem witness_SendAttemptOffersTheOldestOfTheHighest :
    (∀ x ∈ busy.reports.records, x.state ≠ .unsent) ∧ (∃ x ∈ returning.reports.records, x.state = .unsent) ∧
      inFlightCount returning.reports.records < 4 ∧ 4 ≤ inFlightCount (List.replicate 4 (record 1 .inFlight 3)) ∧
      (fullQueue = [] ++ record 1 .unsent 3 :: fullQueue.tail ∧
        (∀ y ∈ fullQueue, y.state = .unsent → y.severity.toNat ≤ (record 1 .unsent 3).severity.toNat)) ∧
      ¬((List.replicate 16 outItem).length < 16) ∧ busy.sendQueue.taken < 32 ∧ busy.management.settings.reportPacing ≠ 0 ∧
      { busy.management.settings with reportPacing := 0 }.reportPacing = 0 ∧ busy.reports.pacingDeadline = none := by
  decide +kernel

theorem witness_ReportTimersExpire :
    returning.Busy ∧ returning.Unobstructed 12000 ∧ (atTime returning 11999 11).Unobstructed 11999 ∧
      (atTime returning 11999 11).Unobstructed 12000 ∧
      returning.reports.pacingDeadline = some 12000 ∧
      { returning.reports with retryDeadline := some 12000 }.retryDeadline = some 12000 ∧ returning.reports.Lawful ∧
      (record 41 .inFlight 3).state = .inFlight ∧ (record 41 .inFlight 3).ackDeadline = some 12000 ∧
      returning.reports.records = [] ++ record 41 .inFlight 3 ::
        [{ record 45 .unsent 3 with firstTime := 11, lastTime := 11, value := some 12 }] :=
  ⟨⟨rfl, rfl, rfl⟩, .inl (Nat.le_refl _), .inl (Nat.le_refl _),
    .inr ⟨.inl (by decide), State.passesNone_iff.1 (by decide +kernel)⟩, rfl, rfl, returning_lawful, rfl, rfl, rfl⟩

end Sys2Proof.Tests
end

section
/-! What an event can do to the association records: every change of a record is one of a few moves, and each move keeps
the laws of the Association Store. -/

namespace Sys2Proof.Machine

/-! ## The moves of an association record -/

/-- One change that an event of a running part makes to the record `r` of association `a`. -/
inductive Assoc.Move (a : AssocId) (r : Assoc) : Assoc → Prop where
  /-- Counters, QUIET, the renew-request timer and the monitor-renewal flag bind no law. -/
  | note (c : Vector W32 8) (q : W16) (d : Option Nat) (m : Bool) :
    Move a r { r with counters := c, quiet := q, renewDeadline := d, monitorRenewal := m }
  /-- R18: a bank stays in its state, its wear unchanged or within the hard limit. -/
  | bank (b : BankId) (k : Bank) (state : k.state = (r.bank b).state)
    (wear : k.wear = (r.bank b).wear ∨ k.wear.toNat ≤ r.policy.hardLimit.toNat) : Move a r (r.setBank b k)
  /-- R15, R109: a bank that is not ACTIVE becomes EMPTY. -/
  | emptied (b : BankId) (state : (r.bank b).state ≠ .active) : Move a r (r.setBank b emptyBank)
  /-- R15: a DRAINING bank becomes RETIRING. -/
  | retired (b : BankId) (state : (r.bank b).state = .draining) :
    Move a r (r.setBank b { r.bank b with state := .retiring, drainDeadline := none })
  /-- R3, R99: work is bound or ends, nothing being bound to a VACANT association. -/
  | work (n : Nat) (t : Option Transaction)
    (vacant : r.state = .vacant → n ≤ r.inFlight ∧ (t = r.transaction ∨ t = none)) :
    Move a r { r with inFlight := n, transaction := t }
  /-- R14. -/
  | promoted (b : BankId) (now : Nat) (state : (r.bank b).state = .fresh) : Move a r (r.promote b now)
  /-- R105. -/
  | installed (g : W16) (key : Key) : Move a r (r.install g key)
  /-- R6. -/
  | vacated (state : r.state = .closing) (landed : r.inFlight = 0) : Move a r r.vacated
  /-- R4. -/
  | opened (other : a ≠ 0) (state : r.state = .vacant) : Move a r r.opened
  /-- R5. -/
  | closing (other : a ≠ 0) : Move a r { r with state := .closing }
  /-- R7. -/
  | suspended (other : a ≠ 0) (state : r.state = .live) : Move a r { r with state := .suspended }
  /-- R8. -/
  | resumed (state : r.state = .suspended) : Move a r { r with state := .live }
  /-- R117, R164. -/
  | policy (p : Policy) : Move a r { r with policy := clampPolicy a r p }

/-- The larger of two numbers. -/
theorem toNat_larger (x y : W32) : (if x.toNat < y.toNat then y else x).toNat = max x.toNat y.toNat := by
  split <;> omega

/-- R117 steps 1 and 3: a limit written as 0 becomes 1. -/
theorem toNat_atLeastOne (x : W32) : (if x = 0 then 1 else x : W32).toNat = max x.toNat 1 := by
  have h0 : x = 0 ↔ x.toNat = 0 := by simp [← BitVec.toNat_inj]
  by_cases h : x = 0
  · rw [if_pos h, h0.1 h]
    rfl
  · rw [if_neg h]
    rw [h0] at h
    omega

/-- R117: the hard limit as stored is at or above the highest wear. -/
theorem clampHard_toNat (written highest : W32) :
    (clampHard written highest).toNat = max (max written.toNat 1) highest.toNat := by
  rw [clampHard, toNat_larger, toNat_atLeastOne]

/-- R117: the highest wear among the non-EMPTY banks. -/
theorem Assoc.highestWear_toNat (r : Assoc) :
    r.highestWear.toNat = max (if r.bankA.state = .empty then 0 else r.bankA.wear.toNat)
      (if r.bankB.state = .empty then 0 else r.bankB.wear.toNat) := by
  rw [Assoc.highestWear, toNat_larger]
  simp only [apply_ite BitVec.toNat]
  rfl

/-- R164: the hard limit of a clamped entry. -/
theorem clampPolicy_hardLimit (a : AssocId) (r : Assoc) (p : Policy) : (clampPolicy a r p).hardLimit =
    clampHard (if a = 0 then 4294967295 else p.hardLimit) r.highestWear := by
  unfold clampPolicy
  by_cases h : a = 0 <;> simp [h]

/-- R117, law 2: both banks are within the limit as stored. -/
theorem clampPolicy_withinLimit (a : AssocId) (r : Assoc) (p : Policy) :
    r.bankA.WithinLimit (clampPolicy a r p).hardLimit ∧ r.bankB.WithinLimit (clampPolicy a r p).hardLimit := by
  simp only [Bank.WithinLimit, clampPolicy_hardLimit, clampHard_toNat, Assoc.highestWear_toNat]
  constructor <;> intro h <;> simp [h]

/-- R18: an EMPTY bank is within every limit. -/
theorem emptyBank_withinLimit (hard : W32) : emptyBank.WithinLimit hard := fun h => absurd rfl h

@[simp] theorem Assoc.setBank_state (r : Assoc) (b : BankId) (k : Bank) : (r.setBank b k).state = r.state := by
  cases b <;> rfl

theorem Assoc.setBank_self (r : Assoc) (b : BankId) : r.setBank b (r.bank b) = r := by cases b <;> rfl

/-- Laws 1 and 2 and the keying after a bank that stays in its state was changed. -/
theorem Assoc.Sound.setBank {r : Assoc} (h : r.Sound) (b : BankId) (k : Bank) (hs : k.state = (r.bank b).state)
    (hw : k.WithinLimit r.policy.hardLimit) : (r.setBank b k).Sound := by
  obtain ⟨⟨sA, sB, f⟩, lA, lB, ky, uk, v⟩ := h
  cases b
  · simp only [Assoc.bank] at hs
    refine ⟨⟨by simpa [Assoc.setBank, hs] using sA, sB, by simpa [Assoc.setBank, hs] using f⟩, hw, lB, fun hl => ?_,
      by simpa [Assoc.setBank, hs] using uk, v⟩
    have := ky hl
    cases hsel : r.selector <;> simp_all [Assoc.setBank, Assoc.bank]
  · simp only [Assoc.bank] at hs
    refine ⟨⟨sA, by simpa [Assoc.setBank, hs] using sB, by simpa [Assoc.setBank, hs] using f⟩, lA, hw, fun hl => ?_,
      by simpa [Assoc.setBank, hs] using uk, v⟩
    have := ky hl
    cases hsel : r.selector <;> simp_all [Assoc.setBank, Assoc.bank]

/-- Laws 1 and 2 and the keying after a bank that is not ACTIVE changed to a state that is not keyed. -/
theorem Assoc.Sound.setBank_unkeyed {r : Assoc} (h : r.Sound) (b : BankId) (k : Bank)
    (hb : (r.bank b).state ≠ .active) (ha : k.state ≠ .active) (hf : k.state ≠ .fresh)
    (he : (r.bank b).state = .empty → k.state = .empty)
    (hw : k.WithinLimit r.policy.hardLimit) : (r.setBank b k).Sound := by
  obtain ⟨⟨sA, sB, f⟩, lA, lB, ky, uk, v⟩ := h
  cases b
  · refine ⟨⟨fun h => absurd h ha, sB, fun h => hf h.1⟩, hw, lB, fun hl => ?_, fun hu => ?_, v⟩
    · have := ky hl
      cases hsel : r.selector <;> simp_all [Assoc.setBank, Assoc.bank]
    · exact ⟨he (uk hu).1, (uk hu).2⟩
  · refine ⟨⟨sA, fun h => absurd h ha, fun h => hf h.2⟩, lA, hw, fun hl => ?_, fun hu => ?_, v⟩
    · have := ky hl
      cases hsel : r.selector <;> simp_all [Assoc.setBank, Assoc.bank]
    · exact ⟨(uk hu).1, he (uk hu).2⟩

theorem Assoc.Sound.limit {r : Assoc} (h : r.Sound) (b : BankId) : (r.bank b).WithinLimit r.policy.hardLimit := by
  cases b
  · exact h.limitA
  · exact h.limitB

/-- R14: a bank that was to drain is not ACTIVE. -/
theorem Bank.startDrain_state_ne (k : Bank) (d : Nat) : (k.startDrain d).state ≠ .active := by
  unfold Bank.startDrain
  split <;> simp_all

/-- R14: draining charges nothing. -/
theorem Bank.WithinLimit.startDrain {k : Bank} {hard : W32} (h : k.WithinLimit hard) (d : Nat) :
    (k.startDrain d).WithinLimit hard := by
  unfold Bank.startDrain
  split
  · exact fun _ => h (by simp_all)
  · exact h

/-- R14: a promotion keeps laws 1 and 2. -/
theorem Assoc.Sound.promote {r : Assoc} (h : r.Sound) {b : BankId} (now : Nat) (hb : (r.bank b).state = .fresh) :
    (r.promote b now).Sound := by
  have hu : ¬(r.state = .vacant ∨ r.state = .pending) := fun hu => by
    have := h.unkeyed hu
    cases b <;> simp_all [Assoc.bank]
  have hw : (r.bank b).activate.WithinLimit r.policy.hardLimit := fun _ => h.limit b (by simp [hb])
  have hd := (h.limit (otherBank b)).startDrain (now + r.policy.drainPeriod.toNat)
  have hn := (r.bank (otherBank b)).startDrain_state_ne (now + r.policy.drainPeriod.toNat)
  cases b
  · exact ⟨⟨fun _ => rfl, fun e => absurd e hn, fun e => (nomatch e.1)⟩, hw, hd, fun _ => rfl, fun e => absurd e hu,
      h.vacant⟩
  · exact ⟨⟨fun e => absurd e hn, fun _ => rfl, fun e => (nomatch e.2)⟩, hd, hw, fun _ => rfl, fun e => absurd e hu,
      h.vacant⟩

/-- R13: a key joins the bank that is not ACTIVE of an association that has an ACTIVE one. -/
theorem Assoc.Sound.joinFresh {r : Assoc} (h : r.Sound) (hk : (r.bank r.selector).state = .active) (g : W16)
    (key : Key) : (r.setBank r.spareBank (installedBank .fresh g key)).Sound := by
  have hu : ¬(r.state = .vacant ∨ r.state = .pending) := fun hu => by
    have := h.unkeyed hu
    cases hs : r.selector <;> simp_all [Assoc.bank]
  cases hs : r.selector with
  | bankA =>
    rw [hs] at hk
    have hA : r.bankA.state = .active := hk
    rw [Assoc.spareBank, if_pos hA]
    exact ⟨⟨fun _ => hs, fun e => (nomatch e), fun e => (by simp [Assoc.setBank, hA] at e)⟩, h.limitA,
      fun _ => Nat.zero_le _, fun _ => (by simpa [Assoc.setBank, Assoc.bank, hs] using hA), fun e => absurd e hu, h.vacant⟩
  | bankB =>
    rw [hs] at hk
    have hB : r.bankB.state = .active := hk
    have hA : r.bankA.state ≠ .active := fun e => by simp [h.banks.selectorA e] at hs
    rw [Assoc.spareBank, if_neg hA]
    exact ⟨⟨fun e => (nomatch e), fun _ => hs, fun e => (by simp [Assoc.setBank, hB] at e)⟩, fun _ => Nat.zero_le _,
      h.limitB, fun _ => (by simpa [Assoc.setBank, Assoc.bank, hs] using hB), fun e => absurd e hu, h.vacant⟩

/-- R105: an installation keeps laws 1 and 2. -/
theorem Assoc.Sound.install {r : Assoc} (h : r.Sound) (g : W16) (key : Key) : (r.install g key).Sound := by
  unfold Assoc.install
  split
  case h_1 hs =>
    obtain ⟨_, eB⟩ := h.unkeyed (.inr hs)
    exact ⟨⟨fun _ => rfl, fun e => by simp [eB] at e, fun e => (nomatch e.1)⟩, fun _ => Nat.zero_le _,
      fun e => absurd eB e, fun _ => rfl, fun e => (by simp at e), fun e => (nomatch e)⟩
  case h_2 hs => exact h.joinFresh (h.keyed (.inl hs)) g key
  case h_3 hs => exact h.joinFresh (h.keyed (.inr hs)) g key
  all_goals exact h

/-- R18: every move keeps laws 1, 2 and 12 and the keying of the association states. -/
theorem Assoc.Move.sound {a : AssocId} {r r' : Assoc} (m : Assoc.Move a r r') (h : r.Sound) : r'.Sound := by
  cases m with
  | note c q d m => exact ⟨⟨h.banks.selectorA, h.banks.selectorB, h.banks.oneFresh⟩, h.limitA, h.limitB, h.keyed, h.unkeyed,
      h.vacant⟩
  | bank b k state wear =>
    refine h.setBank b k state fun hk => ?_
    rcases wear with e | e
    · rw [e]
      exact h.limit b (by rwa [← state])
    · exact e
  | emptied b state =>
    exact h.setBank_unkeyed b _ state (by simp [emptyBank]) (by simp [emptyBank]) (fun _ => rfl) (emptyBank_withinLimit _)
  | retired b state =>
    refine h.setBank_unkeyed b _ (by simp [state]) (by simp) (by simp) (by simp [state]) fun _ => h.limit b (by simp [state])
  | work n t vacant =>
    refine ⟨⟨h.banks.selectorA, h.banks.selectorB, h.banks.oneFresh⟩, h.limitA, h.limitB, h.keyed, h.unkeyed, fun hv => ?_⟩
    obtain ⟨hn, ht⟩ := vacant hv
    obtain ⟨hf, hr⟩ := h.vacant hv
    exact ⟨by simp only; omega, by simpa [hr] using ht⟩
  | promoted b now state => exact h.promote now state
  | installed g key => exact h.install g key
  | vacated state landed =>
    exact ⟨⟨fun e => (nomatch e), fun e => (nomatch e), fun e => (nomatch e.1)⟩, emptyBank_withinLimit _,
      emptyBank_withinLimit _, fun e => (by simp [Assoc.vacated] at e), fun _ => ⟨rfl, rfl⟩, fun _ => ⟨landed, rfl⟩⟩
  | opened other state =>
    obtain ⟨eA, eB⟩ := h.unkeyed (.inl state)
    exact ⟨⟨fun _ => rfl, fun e => (by simp [Assoc.opened, eB] at e), h.banks.oneFresh⟩, h.limitA, h.limitB,
      fun e => (by simp [Assoc.opened] at e), fun _ => ⟨eA, eB⟩, fun e => (nomatch e)⟩
  | closing other =>
    exact ⟨⟨h.banks.selectorA, h.banks.selectorB, h.banks.oneFresh⟩, h.limitA, h.limitB, fun e => (by simp at e),
      fun e => (by simp at e), fun e => (nomatch e)⟩
  | suspended other state =>
    exact ⟨⟨h.banks.selectorA, h.banks.selectorB, h.banks.oneFresh⟩, h.limitA, h.limitB,
      fun _ => h.keyed (.inl state), fun e => (by simp at e), fun e => (nomatch e)⟩
  | resumed state =>
    exact ⟨⟨h.banks.selectorA, h.banks.selectorB, h.banks.oneFresh⟩, h.limitA, h.limitB,
      fun _ => h.keyed (.inr state), fun e => (by simp at e), fun e => (nomatch e)⟩
  | policy p =>
    obtain ⟨wA, wB⟩ := clampPolicy_withinLimit a r p
    exact ⟨⟨h.banks.selectorA, h.banks.selectorB, h.banks.oneFresh⟩, wA, wB, h.keyed, h.unkeyed, h.vacant⟩

/-- R9: no move ends association 0's being LIVE or PENDING, and none but an installation its being PENDING. -/
theorem Assoc.Move.management {r r' : Assoc} (m : Assoc.Move 0 r r') (h : r.state = .live ∨ r.state = .pending) :
    r'.state = .live ∨ r'.state = .pending ∧ r.state = .pending := by
  cases m with
  | note | work | policy | bank | emptied | retired | promoted => simpa [Assoc.promote] using h
  | installed g key => rcases h with h | h <;> simp [Assoc.install, h]
  | vacated state | resumed state => simp [state] at h
  | opened other | closing other | suspended other => exact absurd rfl other

/-! ## Moves through an event -/

/-- The records of `t` come from those of `s` by moves; the part runs on or stays held, and the Provisioning Store stays. -/
structure State.Evolves (s t : State) : Prop where
  records : ∀ a, Relation.ReflTransGen (Assoc.Move a) (s.assoc a) (t.assoc a)
  running : t.power.running = s.power.running
  provisioning : t.provisioning = s.provisioning

theorem State.Evolves.refl (s : State) : s.Evolves s := ⟨fun _ => .refl, rfl, rfl⟩

theorem State.Evolves.trans {s t u : State} (h : s.Evolves t) (k : t.Evolves u) : s.Evolves u :=
  ⟨fun a => (h.records a).trans (k.records a), k.running.trans h.running, k.provisioning.trans h.provisioning⟩

/-- An operation that leaves the records, whether the part runs, and the Provisioning Store. -/
theorem State.Evolves.of_frame {s t : State} (ha : t.assocs = s.assocs) (hp : t.power.running = s.power.running)
    (hv : t.provisioning = s.provisioning) : s.Evolves t :=
  ⟨fun a => by rw [State.assoc_congr ha], hp, hv⟩

/-- One record moves. -/
theorem State.Evolves.modAssoc {s : State} {a : AssocId} {f : Assoc → Assoc}
    (m : Relation.ReflTransGen (Assoc.Move a) (s.assoc a) (f (s.assoc a))) : s.Evolves (s.modAssoc a f) := by
  refine ⟨fun b => ?_, rfl, rfl⟩
  rw [State.assoc_modAssoc]
  split
  · subst_vars; exact m
  · exact .refl

theorem State.Evolves.setBank {s : State} {a : AssocId} {b : BankId} {f : Bank → Bank}
    (state : (f (s.bank a b)).state = (s.bank a b).state)
    (wear : (f (s.bank a b)).wear = (s.bank a b).wear ∨ (f (s.bank a b)).wear.toNat ≤ (s.assoc a).policy.hardLimit.toNat) :
    s.Evolves (s.modBank a b f) := .modAssoc (.single (.bank b _ state wear))

theorem State.evolves_countAssoc (s : State) (a : AssocId) (c : AssocCounter) : s.Evolves (s.countAssoc a c) :=
  .modAssoc (.single (.note _ _ _ _))

theorem State.evolves_sendAttempt (s : State) : s.Evolves s.sendAttempt := by
  obtain ⟨q, l, h⟩ := s.sendAttempt_frame
  exact .of_frame (by rw [h]) (by rw [h]) (by rw [h])

theorem State.evolves_handReport (s : State) (p : Report) : s.Evolves (s.handReport p) := by
  obtain ⟨q, l, c, h⟩ := s.handReport_frame p
  exact .of_frame (by rw [h]) (by rw [h]) (by rw [h])

theorem State.evolves_offerAnswer (s : State) (k t : Byte) (c : Completion) (b : List Byte) (x m : Bool) :
    s.Evolves (s.offerAnswer k t c b x m) := by
  rcases s.offerAnswer_cases k t c b x m with ⟨_, h⟩ | ⟨_, h⟩ <;> rw [h] <;> exact .of_frame rfl rfl rfl

theorem State.evolves_joinInbox (s : State) (m : ControlMessage) : s.Evolves (s.joinInbox m) := by
  rcases s.joinInbox_cases m with ⟨_, h⟩ | ⟨_, h⟩ <;> rw [h] <;> exact .of_frame rfl rfl rfl

theorem State.evolves_offerRenewRequest (s : State) (a : AssocId) : s.Evolves (s.offerRenewRequest a) := by
  rcases s.offerRenewRequest_cases a with h | ⟨p, _, h⟩ <;> rw [h] <;> exact .of_frame rfl rfl rfl

theorem State.evolves_startRenewTimer (s : State) (a : AssocId) : s.Evolves (s.startRenewTimer a) :=
  .modAssoc (.single (.note _ _ _ _))

theorem State.evolves_evaluateDue (s : State) (a : AssocId) : s.Evolves (s.evaluateDue a) := by
  rcases s.evaluateDue_cases a with ⟨_, _, h⟩ | ⟨_, _, h⟩ | ⟨_, h⟩ <;> rw [h]
  · exact .refl s
  · exact (s.evolves_offerRenewRequest a).trans (State.evolves_startRenewTimer _ a)
  · exact .modAssoc (.single (.note _ _ _ _))

theorem State.evolves_evaluateAll (s : State) (l : List AssocId) : s.Evolves (s.evaluateAll l) :=
  State.evaluateAll_keeps s.Evolves (fun _ a h => h.trans (State.evolves_evaluateDue _ a)) l s (.refl s)

theorem State.evolves_exhaust (s : State) (a : AssocId) (b : BankId) : s.Evolves (s.exhaust a b) := by
  unfold State.exhaust
  extract_lets t
  have h : s.Evolves t := s.evolves_countAssoc a _
  split
  · exact h
  · exact (h.trans (.setBank rfl (.inl rfl))).trans (State.evolves_handReport _ _)

/-- R3: the end of a piece of work. -/
theorem Assoc.moves_landed {a : AssocId} (r : Assoc) (t : Option Transaction) (ht : t = r.transaction ∨ t = none) :
    Relation.ReflTransGen (Assoc.Move a) r { r with transaction := t }.landed := by
  have work := Assoc.Move.work (a := a) (r := r) (r.inFlight - 1) t fun _ => ⟨Nat.sub_le _ _, ht⟩
  unfold Assoc.landed
  rcases Assoc.settleClosing_cases { r with inFlight := r.inFlight - 1, transaction := t } with ⟨hs, hf, h⟩ | ⟨_, h⟩
  · rw [h]
    exact (Relation.ReflTransGen.single work).tail (.vacated hs hf)
  · rw [h]
    exact .single work

theorem State.evolves_endTransaction (s : State) (a : AssocId) (c : Completion) : s.Evolves (s.endTransaction a c) := by
  unfold State.endTransaction
  split
  · exact .refl s
  · exact ((s.evolves_offerAnswer _ _ _ _ _ _).trans (.modAssoc (Assoc.moves_landed _ none (.inr rfl)))).trans
      (State.evolves_evaluateDue _ a)

/-- R15, R16: the end of an item bound to a bank. -/
theorem Assoc.moves_release {a : AssocId} (r : Assoc) (b : BankId) :
    Assoc.Move a r (r.setBank b (r.bank b).release) := by
  rcases (r.bank b).release_cases with ⟨hs, _, h⟩ | ⟨_, h⟩ <;> rw [h]
  · exact .emptied b (by simp [hs])
  · exact .bank b _ rfl (.inl rfl)

theorem State.evolves_releaseBank (s : State) (a : AssocId) (b : BankId) : s.Evolves (s.modBank a b Bank.release) :=
  State.Evolves.modAssoc (f := fun r => r.setBank b (r.bank b).release) (.single (Assoc.moves_release _ b))

theorem State.evolves_releaseItem (s : State) (a : AssocId) (b : BankId) : s.Evolves (s.releaseItem a b) :=
  .modAssoc ((Relation.ReflTransGen.single (Assoc.moves_release _ b)).trans (Assoc.moves_landed _ _ (.inl rfl)))

theorem State.evolves_promote (s : State) (a : AssocId) (b : BankId) (h : (s.bank a b).state = .fresh) :
    s.Evolves (s.promote a b) :=
  (State.Evolves.modAssoc (.single (.promoted b _ h))).trans (State.evolves_evaluateDue _ a)

/-- R18: a bank that bears a cost is within the limit when charged. -/
theorem Bank.charge_wear_le {k : Bank} {w : Nat} {hard : W32} (h : k.bears w hard = true) :
    (k.charge w).wear.toNat ≤ hard.toNat := by
  simp only [Bank.bears, decide_eq_true_eq] at h
  simp only [Bank.charge, BitVec.toNat_add, BitVec.toNat_ofNat]
  exact (Nat.mod_le _ _).trans ((Nat.add_le_add_left (Nat.mod_le _ _) _).trans h)

/-- R49 to R58: an item is bound to a bank that bears its cost. -/
theorem Assoc.moves_charge {a : AssocId} {r : Assoc} {b : BankId} {w : Nat} (n : W32)
    (h : (r.bank b).bears w r.policy.hardLimit = true) :
    Assoc.Move a r (r.setBank b { (r.bank b).charge w with nextSequence := n }) :=
  .bank b _ rfl (.inr (Bank.charge_wear_le h))

/-- R3: a frame item counts in the association that carries it. -/
theorem Assoc.moves_bind {a : AssocId} {r r' : Assoc} (m : Assoc.Move a r r') (h : r'.state = .live) :
    Relation.ReflTransGen (Assoc.Move a) r { r' with inFlight := r'.inFlight + 1 } :=
  (Relation.ReflTransGen.single m).tail (.work _ r'.transaction fun e => by rw [h] at e; cases e)

@[simp] theorem Assoc.setBank_inFlight (r : Assoc) (b : BankId) (k : Bank) : (r.setBank b k).inFlight = r.inFlight := by
  cases b <;> rfl

/-! ## The engine -/

theorem State.evolves_modEngine (s : State) (f : Engine → Engine) : s.Evolves (s.modEngine f) := .of_frame rfl rfl rfl
theorem State.evolves_modSendQueue (s : State) (f : SendQueue → SendQueue) : s.Evolves (s.modSendQueue f) :=
  .of_frame rfl rfl rfl
theorem State.evolves_modManagement (s : State) (f : Management → Management) : s.Evolves (s.modManagement f) :=
  .of_frame rfl rfl rfl
theorem State.evolves_modAccess (s : State) (f : Access → Access) : s.Evolves (s.modAccess f) := .of_frame rfl rfl rfl
theorem State.evolves_countStation (s : State) (c : StationCounter) : s.Evolves (s.countStation c) :=
  .of_frame rfl rfl rfl
theorem State.evolves_spendChoice (s : State) : s.Evolves s.spendChoice := .of_frame rfl rfl rfl
theorem State.evolves_setMonitor (s : State) (m : MonitorId) (r : Monitor) : s.Evolves (s.setMonitor m r) :=
  .of_frame rfl rfl rfl

theorem State.evolves_bindOutbound (s : State) (i : OutItem) (b : BankId) (hl : (s.assoc i.assoc).state = .live)
    (h : ((s.assoc i.assoc).bank b).bears (frameCost i.plaintext.length) (s.assoc i.assoc).policy.hardLimit = true) :
    s.Evolves (s.bindOutbound i b) := by
  unfold State.bindOutbound
  extract_lets k c frame
  have m := Assoc.moves_bind (Assoc.moves_charge (a := i.assoc) (k.nextSequence + 1) h) (by simpa using hl)
  rw [Assoc.setBank_inFlight] at m
  exact (((State.Evolves.modAssoc m).trans (State.evolves_modSendQueue _ _)).trans (State.evolves_modEngine _ _)).trans
    (State.evolves_evaluateDue _ _)

theorem State.evolves_admitOutbound (s : State) (i : OutItem) : s.Evolves (s.admitOutbound i) := by
  unfold State.admitOutbound
  extract_lets r
  split
  · exact s.evolves_countAssoc _ _
  · split
    · exact s.evolves_countAssoc _ _
    · rename_i hl
      split
      · exact s.evolves_exhaust _ _
      · split
        · exact s.evolves_bindOutbound i _ (not_not.1 hl).1 ‹_›
        · exact s.evolves_exhaust _ _

theorem State.evolves_bindInbound (s : State) (i : InItem) (hl : (s.assoc i.assoc).state = .live)
    (h : ((s.assoc i.assoc).bank i.bank).bears (frameCost i.ciphertext.length) (s.assoc i.assoc).policy.hardLimit = true) :
    s.Evolves (s.bindInbound i) := by
  unfold State.bindInbound
  extract_lets k plaintext tag
  have m := Assoc.moves_bind (Assoc.moves_charge (a := i.assoc) k.nextSequence h) (by simpa using hl)
  rw [Assoc.setBank_inFlight] at m
  exact ((State.Evolves.modAssoc m).trans (State.evolves_modEngine _ _)).trans (State.evolves_evaluateDue _ _)

theorem State.evolves_admitInbound (s : State) (i : InItem) : s.Evolves (s.admitInbound i) := by
  unfold State.admitInbound
  extract_lets r
  split
  · exact s.evolves_countAssoc _ _
  · rename_i hl
    split
    · exact s.evolves_countAssoc _ _
    · split
      · exact s.evolves_bindInbound i (not_not.1 hl).1 ‹_›
      · exact s.evolves_exhaust _ _

theorem State.evolves_admitUnwrap (s : State) (i : UnwrapItem) : s.Evolves (s.admitUnwrap i) := by
  unfold State.admitUnwrap
  split
  · exact s.evolves_endTransaction _ _
  · split
    · rename_i h
      unfold State.bindUnwrap
      exact ((State.Evolves.setBank rfl (.inr (Bank.charge_wear_le h))).trans (State.evolves_modEngine _ _)).trans
        (State.evolves_evaluateDue _ 0)
    · split
      · exact ((s.evolves_spendChoice).trans (State.evolves_exhaust _ _ _)).trans (State.evolves_endTransaction _ _ _)
      · exact ((s.evolves_spendChoice).trans (State.evolves_endTransaction _ _ _)).trans (State.evolves_exhaust _ _ _)

theorem State.evolves_serve (s : State) (c : ArbiterChoice) : s.Evolves (s.serve c) := by
  cases c with
  | unwrap =>
    show s.Evolves s.serveUnwrap
    unfold State.serveUnwrap
    split
    · exact .refl s
    · exact (s.evolves_modEngine _).trans (State.evolves_admitUnwrap _ _)
  | inbound =>
    show s.Evolves s.serveInbound
    unfold State.serveInbound
    split
    · exact .refl s
    · exact (s.evolves_modEngine _).trans (State.evolves_admitInbound _ _)
  | outbound =>
    show s.Evolves s.serveOutbound
    unfold State.serveOutbound
    split
    · exact .refl s
    · exact ((s.evolves_modEngine _).trans (State.evolves_modManagement _ _)).trans (State.evolves_admitOutbound _ _)

theorem State.evolves_fillPlace (s : State) (c : TrafficClass) (f : SealedFrame) : s.Evolves (s.fillPlace c f) :=
  .of_frame rfl rfl rfl

theorem State.evolves_completeOutbound (s : State) (a : AssocId) (b : BankId) (c : TrafficClass) (f : SealedFrame) :
    s.Evolves (s.completeOutbound a b c f) := by
  unfold State.completeOutbound
  extract_lets s'
  have h : s.Evolves s' := s.evolves_modEngine _
  split
  · exact ((h.trans (State.evolves_fillPlace _ _ _)).trans (State.evolves_countAssoc _ _ _)).trans
      (State.evolves_releaseItem _ _ _)
  · exact ((h.trans (State.evolves_modSendQueue _ _)).trans (State.evolves_countAssoc _ _ _)).trans
      (State.evolves_releaseItem _ _ _)

/-- R55: the window's update changes the window alone. -/
theorem Bank.mark_frame (k : Bank) (s : W32) : ∃ h w, k.mark s = { k with highest := h, seen := w } := by
  unfold Bank.mark
  split
  · exact ⟨_, _, rfl⟩
  · exact ⟨k.highest, _, rfl⟩

/-- A record that is changed twice. -/
theorem State.modAssoc_modAssoc (s : State) (a : AssocId) (f g : Assoc → Assoc) :
    (s.modAssoc a f).modAssoc a g = s.modAssoc a (fun r => g (f r)) := by
  simp [State.modAssoc, State.setAssoc, State.assoc]

/-- R55, R56: the record of an accepted frame's association: the window and the counts. -/
def Assoc.accepted (r : Assoc) (b : BankId) (q : W32) : Assoc :=
  { r.setBank b ((r.bank b).mark q) with
    counters := r.counters.set AssocCounter.deciphered.index (satInc r.counters[AssocCounter.deciphered.index]), quiet := 0 }

@[simp] theorem Assoc.setBank_counters (r : Assoc) (b : BankId) (k : Bank) : (r.setBank b k).counters = r.counters := by
  cases b <;> rfl

/-- R55, R56: an acceptance: the record, and the promotion of a FRESH bank. -/
theorem State.acceptInbound_eq (s : State) (i : InItem) : s.acceptInbound i =
    let t := s.modAssoc i.assoc (fun r => r.accepted i.bank i.sequence)
    if (s.bank i.assoc i.bank).state = .fresh then t.promote i.assoc i.bank else t := by
  unfold State.acceptInbound State.modBank State.countAssoc
  simp only [State.modAssoc_modAssoc, Assoc.setBank_counters]
  rfl

theorem Bank.mark_state (k : Bank) (q : W32) : (k.mark q).state = k.state := by
  obtain ⟨h, w, e⟩ := k.mark_frame q
  rw [e]

theorem Bank.mark_wear (k : Bank) (q : W32) : (k.mark q).wear = k.wear := by
  obtain ⟨h, w, e⟩ := k.mark_frame q
  rw [e]

theorem Assoc.accepted_bank (r : Assoc) (b : BankId) (q : W32) : (r.accepted b q).bank b = (r.bank b).mark q := by
  cases b <;> rfl

theorem Assoc.moves_accepted {a : AssocId} (r : Assoc) (b : BankId) (q : W32) :
    Relation.ReflTransGen (Assoc.Move a) r (r.accepted b q) :=
  (Relation.ReflTransGen.single (.bank b _ (Bank.mark_state _ q) (.inl (Bank.mark_wear _ q)))).tail
    (.note _ _ _ (r.setBank b ((r.bank b).mark q)).monitorRenewal)

theorem State.evolves_acceptInbound (s : State) (i : InItem) : s.Evolves (s.acceptInbound i) := by
  have h : s.Evolves (s.modAssoc i.assoc (fun r => r.accepted i.bank i.sequence)) :=
    .modAssoc (Assoc.moves_accepted _ _ _)
  rw [State.acceptInbound_eq]
  extract_lets t
  split
  · rename_i hf
    refine h.trans (State.evolves_promote _ _ _ ?_)
    rw [State.bank, State.assoc_modAssoc_same, Assoc.accepted_bank, Bank.mark_state]
    exact hf
  · exact h

theorem State.evolves_deliver (s : State) (i : InItem) (p : List Byte) : s.Evolves (s.deliver i p) := by
  unfold State.deliver
  split
  · exact s.evolves_joinInbox _
  · unfold State.joinDelivery
    split
    · exact .of_frame rfl rfl rfl
    · exact s.evolves_countStation _

theorem State.evolves_completeInbound (s : State) (i : InItem) (p g : List Byte) :
    s.Evolves (s.completeInbound i p g) := by
  unfold State.completeInbound
  extract_lets s'
  have h : s.Evolves s' := s.evolves_modEngine _
  have refused (c : AssocCounter) : s.Evolves ((s'.countAssoc i.assoc c).releaseItem i.assoc i.bank) :=
    (h.trans (State.evolves_countAssoc _ _ _)).trans (State.evolves_releaseItem _ _ _)
  split
  · exact refused _
  · split
    · exact refused _
    · split
      · exact ((h.trans (State.evolves_acceptInbound _ _)).trans (State.evolves_deliver _ _ _)).trans
          (State.evolves_releaseItem _ _ _)
      · exact refused _

theorem State.evolves_wrapReject (s : State) (a : AssocId) : s.Evolves (s.wrapReject a) :=
  (s.evolves_countStation _).trans (State.evolves_handReport _ _)

theorem State.evolves_finishOffer (s : State) (i : UnwrapItem) (key : Key) (p : Bool) :
    s.Evolves (s.finishOffer i key p) := by
  unfold State.finishOffer
  split
  · split
    · exact ((s.evolves_spendChoice).trans (State.evolves_wrapReject _ _)).trans (State.evolves_endTransaction _ _ _)
    · exact ((s.evolves_spendChoice).trans (State.evolves_endTransaction _ _ _)).trans (State.evolves_wrapReject _ _)
  · exact (State.Evolves.modAssoc (.single (.installed _ _))).trans (State.evolves_endTransaction _ _ _)
  · exact s.evolves_endTransaction _ _

theorem State.evolves_completeUnwrap (s : State) (i : UnwrapItem) (key : Key) (p : Bool) :
    s.Evolves (s.completeUnwrap i key p) :=
  ((s.evolves_modEngine _).trans (State.evolves_finishOffer _ _ _ _)).trans (State.evolves_releaseBank _ _ _)

/-! ## Messages -/

theorem State.evolves_reply (s : State) (m : ControlMessage) (c : Completion) (b : List Byte) :
    s.Evolves (s.reply m c b) := s.evolves_offerAnswer _ _ _ _ _ _

theorem State.evolves_reject (s : State) (m : ControlMessage) (c : Completion) : s.Evolves (s.reject m c) :=
  s.evolves_reply _ _ _

theorem State.evolves_conclude (s : State) (m : ControlMessage) (c : Completion) (b : List Byte) :
    s.Evolves (s.conclude m c b) := by
  unfold State.conclude
  split
  · exact s.evolves_reply _ _ _
  · exact s.evolves_reject _ _

theorem State.evolves_writeEntry (t : TableId) (w : Written) (i : Nat) (e : List Byte) :
    w.1.Evolves (t.writeEntry w i e).1 := by
  cases t with
  | assocConfig =>
    show w.1.Evolves (writePolicyEntry w i e).1
    unfold writePolicyEntry
    split
    · rename_i h
      split
      · exact .refl _
      · rename_i p _
        exact State.Evolves.modAssoc (f := fun r => { r with policy := clampPolicy ⟨i, h⟩ (w.1.assoc ⟨i, h⟩) p })
          (.single (.policy p))
    · exact .refl _
  | flow =>
    show w.1.Evolves (writeFlowEntry w i e).1
    unfold writeFlowEntry
    split <;> exact .of_frame rfl rfl rfl
  | monitor =>
    show w.1.Evolves (writeMonitorEntry w i e).1
    unfold writeMonitorEntry
    split
    · split <;> exact .of_frame rfl rfl rfl
    · exact .refl _
  | settings => exact .of_frame rfl rfl rfl
  | _ => exact .refl _

theorem State.evolves_writeEntries (s : State) (t : TableId) (first count : Nat) (l : List Byte) :
    s.Evolves (s.writeEntries t first count l).1 := by
  unfold State.writeEntries
  refine List.foldlRecOn (motive := fun w : Written => s.Evolves w.1) _ _ (.refl s) fun w h k _ => ?_
  exact h.trans (State.evolves_writeEntry _ _ _ _)

theorem State.evolves_takeTableWrite (s : State) (m : ControlMessage) : s.Evolves (s.takeTableWrite m) := by
  unfold State.takeTableWrite
  extract_lets table first count
  split
  · exact s.evolves_reject _ _
  · rename_i t _
    extract_lets w body named
    have h : s.Evolves w.1 := s.evolves_writeEntries _ _ _ _
    split
    · exact h.trans (State.evolves_reply _ _ _ _)
    · split
      · exact ((h.trans (State.evolves_spendChoice _)).trans (State.evolves_evaluateAll _ _)).trans
          (State.evolves_reply _ _ _ _)
      · exact ((h.trans (State.evolves_spendChoice _)).trans (State.evolves_reply _ _ _ _)).trans
          (State.evolves_evaluateAll _ _)

theorem State.evolves_openAssoc (s : State) (a : AssocId) : s.Evolves (s.openAssoc a).1 := by
  unfold State.openAssoc
  split
  · exact .refl s
  · split
    · exact .modAssoc (.single (.opened ‹_› ‹_›))
    all_goals exact .refl s

theorem State.evolves_startClosing (s : State) (a : AssocId) (h : a ≠ 0) : s.Evolves (s.startClosing a) := by
  refine State.Evolves.trans (.modAssoc ?_) (State.evolves_evaluateDue _ _)
  have m := Assoc.Move.closing (r := s.assoc a) h
  rcases Assoc.settleClosing_cases { s.assoc a with state := .closing } with ⟨hs, hf, e⟩ | ⟨_, e⟩ <;> rw [e]
  · exact (Relation.ReflTransGen.single m).tail (.vacated hs hf)
  · exact .single m

theorem State.evolves_closeAssoc (s : State) (a : AssocId) : s.Evolves (s.closeAssoc a).1 := by
  unfold State.closeAssoc
  split
  · exact .refl s
  · split
    · exact .refl s
    · exact .refl s
    all_goals exact s.evolves_startClosing a ‹_›

theorem State.evolves_resumeAssoc (s : State) (a : AssocId) : s.Evolves (s.resumeAssoc a).1 := by
  refine .modAssoc ?_
  split
  · exact .single (.resumed ‹_›)
  · exact .refl

theorem State.evolves_assocAnswer {s : State} (m : ControlMessage) (a : AssocId) {r : State × Completion}
    (h : s.Evolves r.1) : s.Evolves (State.assocAnswer m a r) := h.trans (State.evolves_conclude _ _ _ _)

theorem State.evolves_beginTransaction (s : State) (a : AssocId) (g : W16) (t : Byte) (v : Carrier) (k : Key)
    (c : BitVec 64) (h : (s.assoc a).state ≠ .vacant) : s.Evolves (s.beginTransaction a g t v k c) :=
  ((State.Evolves.modAssoc (.single (.work _ _ fun e => absurd e h))).trans (State.evolves_modEngine _ _)).trans
    (State.evolves_evaluateDue _ _)

/-- R101, R106, R109: an association whose key message passes the shared checks is not VACANT. -/
theorem State.keyMessageCheck_ok {s : State} {o : Byte} {a : AssocId} (h : s.keyMessageCheck o = .ok a) :
    (s.assoc a).state ≠ .vacant := by
  unfold State.keyMessageCheck at h
  split at h
  · cases h
  · split at h
    · cases h
    · split at h
      · cases h
      · rename_i hs _
        cases h
        exact fun e => hs (.inl e)

theorem State.evolves_keyOffer (s : State) (o : Byte) (g : W16) (t : Byte) (v : Carrier) (k : Key) (c : BitVec 64) :
    s.Evolves (s.keyOffer o g t v k c).1 := by
  unfold State.keyOffer
  split
  · exact .refl s
  · split
    · exact .refl s
    · exact s.evolves_beginTransaction _ _ _ _ _ _ (State.keyMessageCheck_ok ‹_›)

theorem State.evolves_keySwitch (s : State) (o : Byte) (g : W16) : s.Evolves (s.keySwitch o g).1 := by
  unfold State.keySwitch
  split
  · exact .refl s
  · split
    · rename_i h
      split
      · exact s.evolves_promote _ _ (Assoc.bankIn_state h)
      · split <;> exact .refl s
    · split <;> exact .refl s

theorem State.evolves_keyWithdraw (s : State) (o : Byte) (g : W16) : s.Evolves (s.keyWithdraw o g).1 := by
  unfold State.keyWithdraw
  split
  · exact .refl s
  · split
    · exact .refl s
    · rename_i h
      split
      · exact .refl s
      · split
        · exact .refl s
        · exact (State.Evolves.modAssoc (.single (.emptied _ (by rw [Assoc.bankIn_state h]; simp)))).trans
            (State.evolves_evaluateDue _ _)

theorem State.evolves_acknowledge (s : State) (l : List W16) : s.Evolves (s.acknowledge l).1 := by
  unfold State.acknowledge
  extract_lets r s'
  have h : s.Evolves s' := .of_frame rfl rfl rfl
  split
  · exact h
  · exact h.trans (State.evolves_sendAttempt _)

theorem State.evolves_handleMessage (s : State) (m : ControlMessage) (k : MessageKind) :
    s.Evolves (s.handleMessage m k) := by
  cases k with
  | echo => exact s.evolves_reply _ _ _
  | tableRead => exact s.evolves_conclude _ _ _
  | tableWrite => exact s.evolves_takeTableWrite m
  | assocOpen =>
    show s.Evolves (s.takeAssocOpen m)
    unfold State.takeAssocOpen
    split
    · exact s.evolves_reject _ _
    · exact State.evolves_assocAnswer _ _ (s.evolves_openAssoc _)
  | assocClose =>
    show s.Evolves (s.takeAssocClose m)
    unfold State.takeAssocClose
    split
    · exact s.evolves_reject _ _
    · exact State.evolves_assocAnswer _ _ (s.evolves_closeAssoc _)
  | assocResume =>
    show s.Evolves (s.takeAssocResume m)
    unfold State.takeAssocResume
    split
    · exact s.evolves_reject _ _
    · exact State.evolves_assocAnswer _ _ (s.evolves_resumeAssoc _)
  | keyOffer =>
    show s.Evolves (s.takeKeyOffer m)
    unfold State.takeKeyOffer
    extract_lets r
    have h : s.Evolves r.1 := s.evolves_keyOffer _ _ _ _ _ _
    split
    · exact h
    · exact h.trans (State.evolves_reply _ _ _ _)
  | keySwitch => exact (s.evolves_keySwitch _ _).trans (State.evolves_reply _ _ _ _)
  | keyWithdraw => exact (s.evolves_keyWithdraw _ _).trans (State.evolves_reply _ _ _ _)
  | monitorClear =>
    show s.Evolves (s.takeMonitorClear m)
    unfold State.takeMonitorClear
    extract_lets o
    split
    · exact (s.evolves_setMonitor _ _).trans (State.evolves_reply _ _ _ _)
    · exact s.evolves_reject _ _
  | reportAck => exact (s.evolves_acknowledge _).trans (State.evolves_reply _ _ _ _)
  | serviceSet =>
    show s.Evolves (s.takeServiceSet m)
    unfold State.takeServiceSet
    extract_lets v
    split
    · exact (s.evolves_modManagement _).trans (State.evolves_reply _ _ _ _)
    · exact s.evolves_reject _ _
  | restart => exact (s.evolves_modManagement _).trans (State.evolves_offerAnswer _ _ _ _ _ _ _)

theorem State.evolves_takeMessage (s : State) (m : ControlMessage) : s.Evolves (s.takeMessage m) := by
  unfold State.takeMessage
  split
  · exact s.evolves_reject _ _
  · exact s.evolves_handleMessage _ _

theorem State.evolves_takeHead (s : State) : s.Evolves s.takeHead := by
  unfold State.takeHead
  split
  · exact .refl s
  · exact (s.evolves_modManagement _).trans (State.evolves_takeMessage _ _)

/-- R44, R158: the settling of an event moves the records only. -/
theorem State.evolves_settle (s : State) : s.Evolves s.settle :=
  State.settle_keeps s.Evolves (fun _ h _ => h.trans (State.evolves_takeHead _))
    (fun _ c h _ => h.trans (State.evolves_serve _ c)) (fun _ h => h.trans (State.evolves_spendChoice _)) s (.refl s)

/-! ## Time and the monitors -/

theorem State.evolves_reach (s : State) (t : Nat) : s.Evolves (s.reach t) := .of_frame (by simp) (by simp) (by simp)

theorem State.evolves_reachSecond (s : State) (d : Option Nat) : s.Evolves (s.reachSecond d) := by
  unfold State.reachSecond
  split
  · exact .refl s
  · exact .of_frame rfl rfl rfl

/-- R16: a second changes the key age of a bank alone. -/
theorem Bank.second_frame (k : Bank) : k.second.state = k.state ∧ k.second.wear = k.wear := by
  unfold Bank.second
  split <;> exact ⟨rfl, rfl⟩

theorem Assoc.moves_second {a : AssocId} (r : Assoc) : Relation.ReflTransGen (Assoc.Move a) r r.second :=
  ((Relation.ReflTransGen.single (.bank .bankA r.bankA.second r.bankA.second_frame.1 (.inl r.bankA.second_frame.2))).tail
    (.bank .bankB r.bankB.second r.bankB.second_frame.1 (.inl r.bankB.second_frame.2))).tail (.note _ _ _ _)

theorem State.evolves_storeSecond (s : State) : s.Evolves s.storeSecond := by
  unfold State.storeSecond
  have h : s.Evolves { s.setStoreWaits false with assocs := s.assocs.map Assoc.second } :=
    ⟨fun a => by simpa [State.assoc] using Assoc.moves_second (a := a) s.assocs[a], rfl, rfl⟩
  exact h.trans (State.evolves_evaluateAll _ _)

theorem State.evolves_passSecond (s : State) : s.Evolves s.passSecond := by
  unfold State.passSecond
  refine State.Evolves.trans (State.Evolves.trans ?_ (State.evolves_storeSecond _)) (State.evolves_settle _)
  split
  · exact .refl s
  · exact .of_frame rfl rfl rfl

theorem State.evolves_drainExpiry (s : State) (a : AssocId) (b : BankId) : s.Evolves (s.drainExpiry a b) := by
  unfold State.drainExpiry
  split
  · exact .refl s
  · split
    · rename_i h
      refine State.Evolves.modAssoc (.single ?_)
      unfold Bank.drainExpires
      split
      · exact .emptied b (by rw [show ((s.assoc a).bank b).state = _ from h.1]; simp)
      · exact .retired b h.1
    · exact .refl s

theorem State.evolves_renewTimerExpires (s : State) (a : AssocId) : s.Evolves (s.renewTimerExpires a) := by
  unfold State.renewTimerExpires
  split
  · exact .refl s
  · split
    · exact .refl s
    · split
      · exact (s.evolves_offerRenewRequest a).trans (State.evolves_startRenewTimer _ a)
      · exact .modAssoc (.single (.note _ _ _ _))

theorem State.evolves_inhibitExpires (s : State) (m : MonitorId) : s.Evolves (s.inhibitExpires m) := by
  unfold State.inhibitExpires
  extract_lets r
  split
  · exact s.evolves_setMonitor _ _
  · exact .refl s

theorem State.evolves_runAction (s : State) (c : MonitorConfig) : s.Evolves (s.runAction c) := by
  unfold State.runAction
  split
  · exact .refl s
  · refine State.Evolves.trans (.modAssoc ?_) (State.evolves_evaluateDue _ _)
    split
    · exact .refl
    · exact .single (.note _ _ _ _)
  · refine .modAssoc ?_
    split
    · rename_i h
      exact .single (.suspended h.2 h.1)
    · exact .refl

theorem State.evolves_fire (s : State) (m : MonitorId) (c : MonitorConfig) (v : W32) : s.Evolves (s.fire m c v) := by
  unfold State.fire
  extract_lets report
  split
  · exact ((s.evolves_spendChoice).trans (State.evolves_handReport _ _)).trans (State.evolves_runAction _ _)
  · exact ((s.evolves_spendChoice).trans (State.evolves_runAction _ _)).trans (State.evolves_handReport _ _)

theorem State.evolves_takeSample (s : State) (m : MonitorId) : s.Evolves (s.takeSample m) := by
  unfold State.takeSample
  split
  · extract_lets r p
    refine (s.evolves_setMonitor m p.1).trans ?_
    unfold State.sampleEffect
    split
    · exact .refl _
    · exact State.evolves_fire _ _ _ _
    · exact State.evolves_handReport _ _
  · exact .refl s

theorem State.evolves_modReports (s : State) (f : ReportQueue → ReportQueue) : s.Evolves (s.modReports f) :=
  .of_frame rfl rfl rfl

theorem State.evolves_returnRecord (s : State) (n : W16) : s.Evolves (s.returnRecord n) := by
  unfold State.returnRecord
  split
  · exact .refl s
  · exact (s.evolves_modReports _).trans (State.evolves_sendAttempt _)

/-! ## The lines -/

theorem State.evolves_protectFrame (s : State) (a : AssocId) (p : List Byte) : s.Evolves (s.protectFrame a p) := by
  unfold State.protectFrame
  split
  · exact s.evolves_countAssoc _ _
  · split
    · exact s.evolves_countAssoc _ _
    · exact (s.evolves_modEngine _).trans (State.evolves_settle _)

theorem State.evolves_shopFrame (s : State) (o : List Byte) (e : Bool) : s.Evolves (s.shopFrame o e) := by
  unfold State.shopFrame
  extract_lets frame s'
  have h : s.Evolves s' := .of_frame rfl rfl rfl
  split
  · exact h.trans (State.evolves_countStation _ _)
  · split
    · exact h.trans (State.evolves_countStation _ _)
    · unfold State.classify
      split
      · exact h.trans (State.evolves_countStation _ _)
      · split
        · exact h.trans (.of_frame rfl rfl rfl)
        · rename_i i _ _
          have k : s'.Evolves (s'.countHit i) := .of_frame rfl rfl rfl
          exact (h.trans k).trans (State.evolves_protectFrame _ _ _)

theorem State.evolves_frameForBank (s : State) (c : List Byte) : s.Evolves (s.frameForBank c) := by
  unfold State.frameForBank
  extract_lets a
  split
  · exact s.evolves_countAssoc _ _
  · split
    · exact s.evolves_countAssoc _ _
    · split
      · exact s.evolves_countAssoc _ _
      · exact (s.evolves_modEngine _).trans (State.evolves_settle _)

theorem State.evolves_trunkFrame (s : State) (c : List Byte) : s.Evolves (s.trunkFrame c) := by
  unfold State.trunkFrame
  extract_lets a
  split
  · exact s.evolves_countStation _
  · split
    · exact s.evolves_countStation _
    · split
      · exact .refl s
      · split
        · exact s.evolves_countStation _
        · split
          · exact s.evolves_countStation _
          · split
            · exact s.evolves_countAssoc _ _
            · exact s.evolves_frameForBank _

theorem State.evolves_receiveOctet (s : State) (o : Byte) : s.Evolves (s.receiveOctet o) := by
  unfold State.receiveOctet
  have h : s.Evolves (s.modReceiver (fun _ => (s.receiver.takeOctet o).1)) := .of_frame rfl rfl rfl
  refine h.trans ?_
  unfold State.framingEffect
  split
  · exact .refl _
  · exact State.evolves_countStation _ _
  · exact State.evolves_trunkFrame _ _

theorem State.evolves_releaseBurst (s : State) : s.Evolves s.releaseBurst := by
  unfold State.releaseBurst
  split
  · exact ((s.evolves_modAccess _).trans (State.evolves_handReport _ _)).trans (State.evolves_settle _)
  · exact s.evolves_modAccess _

theorem State.evolves_hold (s : State) (p : HoldPoint) : s.Evolves (s.hold p) := by
  unfold State.hold
  split <;> exact .of_frame rfl rfl rfl

theorem State.evolves_clockLost (s : State) : s.Evolves s.clockLost := by
  unfold State.clockLost
  refine State.Evolves.trans (State.Evolves.trans ?_ (State.evolves_handReport _ _)) (State.evolves_settle _)
  unfold State.receiverClockLoss
  split <;> exact .of_frame rfl rfl rfl

/-! ## Commands -/

/-- What a command does to the association records: moves, a reset, or a start-up with moves after it. -/
inductive State.Event (s t : State) : Prop where
  | moves (h : s.Evolves t)
  | held (running : t.power.running = false) (records : t.assocs = Vector.ofFn defaultAssoc)
  | started (straps : BitVec 3) (pace : Pace) (h : (s.bootSteps straps pace).Evolves t)

theorem State.Event.of_event {s t : State} {c : Bool} {f : State → State} (h : s.event c f = .next t)
    (hf : s.Event (f s)) : s.Event t := by
  unfold State.event at h
  split at h
  · cases h; exact hf
  · cases h; exact .moves (.refl _)

theorem State.Event.of_lineEvent {s t : State} {c : Bool} {f : State → State} (h : s.lineEvent c f = .next t)
    (hf : s.Event (f s.clockEdge)) : s.Event t := .of_event h hf

/-- A control message's arrival, its taking and what follows at that event. -/
theorem State.Event.of_message {s t : State} {m : ControlMessage} (h : s.messageEvent m = .next t) : s.Event t :=
  .of_event h (.moves ((s.evolves_joinInbox m).trans (State.evolves_settle _)))

theorem State.evolves_clockEdge (s : State) : s.Evolves s.clockEdge := .of_frame rfl rfl rfl

theorem State.event_softReset (s u : State) : s.Event u.softReset :=
  .held (by simp only [State.softReset, State.heldInReset])
    (by simp only [State.softReset, State.heldInReset, State.blocksAfterReset])

theorem State.Event.of_sentFrame {s u : State} (h : s.Evolves u) : s.Event u.sentFrame := by
  unfold State.sentFrame
  split
  · exact .moves h
  · split
    · exact .moves h
    · unfold State.frameLeaves
      split
      · exact s.event_softReset _
      · exact .moves (((h.trans (State.evolves_modSendQueue _ _)).trans (State.evolves_modAccess _ _)).trans
          (State.evolves_settle _))

/-- R173: a part held in reset has every block as after reset. -/
theorem State.event_conditionArises (s : State) {u : State} (c : ResetCondition) : s.Event (u.conditionArises c) :=
  .held (by simp only [State.conditionArises]) (by simp only [State.conditionArises, State.heldInReset, State.blocksAfterReset])

theorem State.event_startUp (s : State) (straps : BitVec 3) (pace : Pace) (o : StartUpOutcome) :
    s.Event (s.startUp straps pace o) := by
  cases o with
  | completed =>
    simp only [State.startUp, State.completeStartUp]
    exact .started straps pace ((State.evolves_handReport _ _).trans (State.evolves_settle _))
  | abandonedBeforeWrite c => exact s.event_conditionArises c
  | abandonedAfterWrite c => exact s.event_conditionArises c

/-- What a command can do to the association records. -/
theorem exec_event {c : Instr} {s t : State} (h : exec c s = .next t) : s.Event t := by
  cases c <;> simp only [exec] at h
  case shopFrameArrival o e => exact .of_event h (.moves (s.evolves_shopFrame o e))
  case shopTransmitStart | shopTransmissionEnd => exact .of_event h (.moves (.of_frame rfl rfl rfl))
  case trunkFramingDrop | trunkFrameArrival | trunkReceiveOctet =>
    exact .of_lineEvent h (.moves ((s.evolves_clockEdge).trans (State.evolves_receiveOctet _ _)))
  case outboundCompletion =>
    refine .of_event h (.moves ?_)
    unfold State.outboundDone
    split
    · exact (s.evolves_completeOutbound _ _ _ _).trans (State.evolves_settle _)
    · exact .refl s
  case inboundCompletion =>
    refine .of_event h (.moves ?_)
    unfold State.inboundDone
    split
    · exact (s.evolves_completeInbound _ _ _).trans (State.evolves_settle _)
    · exact .refl s
  case unwrapCompletion =>
    refine .of_event h (.moves ?_)
    unfold State.unwrapDone
    split
    · exact (s.evolves_completeUnwrap _ _ _).trans (State.evolves_settle _)
    · exact .refl s
  case restartLimitExpiry => exact .of_event h (s.event_softReset s)
  case resetCondition c p =>
    cases h
    split
    · exact s.event_conditionArises c
    · unfold State.conditionEnds
      split
      · exact .moves (.of_frame rfl (by cases c <;> rfl) rfl)
      · exact .moves (.refl s)
  case startUp straps pace o =>
    cases h
    split
    · exact s.event_startUp straps pace o
    · exact .moves (.refl s)
  case timeBaseSecond => exact .of_event h (.moves s.evolves_passSecond)
  case drainDeadlineExpiry a b =>
    exact .of_event h (.moves ((s.evolves_reachSecond _).trans (State.evolves_drainExpiry _ _ _)))
  case renewRequestTimerExpiry a =>
    exact .of_event h (.moves (((s.evolves_reachSecond _).trans (State.evolves_renewTimerExpires _ _)).trans
      (State.evolves_settle _)))
  case startupInhibitExpiry m =>
    exact .of_event h (.moves ((s.evolves_reachSecond _).trans (State.evolves_inhibitExpires _ _)))
  case monitorSample m =>
    exact .of_event h (.moves (((s.evolves_reachSecond _).trans (State.evolves_takeSample _ _)).trans
      (State.evolves_settle _)))
  case ackDeadlineExpiry n =>
    exact .of_event h (.moves (((s.evolves_reach _).trans (State.evolves_returnRecord _ _)).trans
      (State.evolves_settle _)))
  case pacingTimerExpiry | retryTimerExpiry =>
    exact .of_event h (.moves ((((s.evolves_reach _).trans (State.evolves_modReports _ _)).trans
      (State.evolves_sendAttempt _)).trans (State.evolves_settle _)))
  case frameSent => exact .of_lineEvent h (.of_sentFrame s.evolves_clockEdge)
  case burstRelease => exact .of_lineEvent h (.moves ((s.evolves_clockEdge).trans (State.evolves_releaseBurst _)))
  case standoffExpiry => exact .of_event h (.moves ((s.evolves_reach _).trans (State.evolves_modAccess _ _)))
  case paceHold p => exact .of_event h (.moves (s.evolves_hold p))
  case paceGo => exact .of_event h (.moves (s.evolves_modAccess _))
  case trunkClockLoss => exact .of_event h (.moves ((s.evolves_reach _).trans (State.evolves_clockLost _)))
  case trunkClockReturn => exact .of_event h (.moves (.of_frame rfl rfl rfl))
  case lineQuiet | openGap | claimByOtherStation | lineWatchGuard | claimStart | claimLost | claimWon | clash
      | huntDelimiterFound | busyPeriodEnd | lineWatchOctet => exact .of_lineEvent h (.moves (.of_frame rfl rfl rfl))
  all_goals exact .of_message h

/-- A step runs a command on a state with the same records, or brings a millisecond. -/
theorem step_event {s t : State} (h : step s = .next t) :
    ∃ u : State, u.assocs = s.assocs ∧ u.power = s.power ∧ u.provisioning = s.provisioning ∧ u.Event t := by
  unfold step at h
  split at h
  · rename_i rest _
    exact ⟨{ s with pending := rest }, rfl, rfl, rfl, exec_event h⟩
  · split at h
    · unfold idleStep at h
      split at h
      · exact ⟨s.spendChoice, rfl, rfl, rfl, exec_event h⟩
      · cases h
        exact ⟨s, rfl, rfl, rfl, .moves (s.evolves_reach _)⟩
    · cases h
      exact ⟨s, rfl, rfl, rfl, .moves (.refl s)⟩

/-! ## The laws -/

/-- Moves keep laws 1, 2 and 12. -/
theorem State.Evolves.sound {s t : State} (h : s.Evolves t) (hs : s.AssocsSound) : t.AssocsSound := by
  intro a
  have moves (r : Assoc) (m : Relation.ReflTransGen (Assoc.Move a) (s.assoc a) r) : r.Sound := by
    induction m with
    | refl => exact hs a
    | tail _ m ih => exact m.sound ih
  exact moves _ (h.records a)

/-- Moves keep law 11. -/
theorem State.Evolves.managementKeyed {s t : State} (h : s.Evolves t) (hs : s.ManagementKeyed) : t.ManagementKeyed := by
  intro hr
  rw [h.running] at hr
  rw [h.provisioning]
  have moves (r : Assoc) (m : Relation.ReflTransGen (Assoc.Move 0) (s.assoc 0) r) :
      r.state = .live ∨ r.state = .pending ∧ s.provisioning.spent = true := by
    induction m with
    | refl => exact hs hr
    | tail _ m ih =>
      rcases m.management (ih.imp_right And.left) with hl | ⟨hp, hb⟩
      · exact .inl hl
      · exact .inr ⟨hp, (ih.resolve_left (by simp [hb])).2⟩
  exact moves _ (h.records 0)

/-- An association as after reset. -/
theorem defaultAssoc_sound (a : AssocId) : (defaultAssoc a).Sound :=
  ⟨⟨fun e => (nomatch e), fun e => (nomatch e), fun e => (nomatch e.1)⟩, emptyBank_withinLimit _,
    emptyBank_withinLimit _, fun e => (by simp [defaultAssoc] at e), fun _ => ⟨rfl, rfl⟩, fun _ => ⟨rfl, rfl⟩⟩

/-- R9: association 0 as start-up builds it. -/
theorem bootAssoc_sound (p : Provisioning) : (bootAssoc p).Sound := by
  unfold bootAssoc
  split
  · exact ⟨⟨fun e => (nomatch e), fun e => (nomatch e), fun e => (nomatch e.1)⟩, emptyBank_withinLimit _,
      emptyBank_withinLimit _, fun e => (by simp at e), fun _ => ⟨rfl, rfl⟩, fun _ => ⟨rfl, rfl⟩⟩
  · exact ⟨⟨fun _ => rfl, fun e => (nomatch e), fun e => (nomatch e.1)⟩, fun _ => Nat.zero_le _,
      emptyBank_withinLimit _, fun _ => rfl, fun e => (by simp at e), fun e => (nomatch e)⟩

/-- R173, R174: the records that start-up begins with. -/
theorem State.assoc_bootSteps (s : State) (straps : BitVec 3) (pace : Pace) (a : AssocId) :
    (s.bootSteps straps pace).assoc a = if a = 0 then bootAssoc s.provisioning else defaultAssoc a := by
  have h : (s.bootSteps straps pace).assoc a = (s.blocksAfterReset.setAssoc 0 (bootAssoc s.provisioning)).assoc a :=
    State.assoc_congr (by simp only [State.bootSteps]) a
  rw [h, State.assoc_setAssoc]
  split
  · rfl
  · simp [State.assoc, State.blocksAfterReset]

theorem State.bootSteps_sound (s : State) (straps : BitVec 3) (pace : Pace) : (s.bootSteps straps pace).AssocsSound := by
  intro a
  rw [State.assoc_bootSteps]
  split
  · exact bootAssoc_sound _
  · exact defaultAssoc_sound a

/-- R9: start-up makes association 0 LIVE, or PENDING with the boot epoch spent. -/
theorem State.bootSteps_managementKeyed (s : State) (straps : BitVec 3) (pace : Pace) :
    (s.bootSteps straps pace).ManagementKeyed := by
  intro _
  have hp : (s.bootSteps straps pace).provisioning = s.provisioning.advance := by simp only [State.bootSteps]
  rw [State.assoc_bootSteps, hp, if_pos rfl, bootAssoc, Provisioning.advance]
  split
  · exact .inr ⟨rfl, ‹_›⟩
  · exact .inl rfl

theorem State.Event.sound {s t : State} (h : s.Event t) (hs : s.AssocsSound) : t.AssocsSound := by
  cases h with
  | moves h => exact h.sound hs
  | held _ records =>
    intro a
    have h : t.assoc a = defaultAssoc a := by simp [State.assoc, records]
    rw [h]
    exact defaultAssoc_sound a
  | started straps pace h => exact h.sound (s.bootSteps_sound straps pace)

theorem State.Event.managementKeyed {s t : State} (h : s.Event t) (hs : s.ManagementKeyed) : t.ManagementKeyed := by
  cases h with
  | moves h => exact h.managementKeyed hs
  | held running => exact fun hr => by simp [running] at hr
  | started straps pace h => exact h.managementKeyed (s.bootSteps_managementKeyed straps pace)

/-- Settles O6: whatever a step does to the association records is a sequence of moves, a reset or a start-up with moves
after it, and each of these keeps the laws. -/
theorem everyStepKeepsTheAssociationLaws : Obligations.EveryStepKeepsTheAssociationLaws := by
  refine ⟨fun s t hs h => ?_, fun s t hs h => ?_⟩
  · obtain ⟨u, ha, _, _, e⟩ := step_event h
    exact e.sound fun a => by rw [State.assoc_congr ha]; exact hs a
  · obtain ⟨u, ha, hp, hv, e⟩ := step_event h
    refine e.managementKeyed fun hr => ?_
    rw [State.assoc_congr ha, hv]
    exact hs (by rwa [← hp])

end Sys2Proof.Machine
end

section
/-! The clamps of written limits (R117, R130, R164). -/

namespace Sys2Proof.Machine

/-! ## Policies -/

/-- The smaller of two numbers. -/
theorem toNat_smaller (x y : W32) : (if y.toNat < x.toNat then y else x).toNat = min x.toNat y.toNat := by
  split <;> omega

/-- R117: the soft limit as stored is from 1 to the hard limit. -/
theorem clampSoft_toNat (written hard : W32) :
    (clampSoft written hard).toNat = min (max written.toNat 1) hard.toNat := by
  rw [clampSoft, toNat_smaller, toNat_atLeastOne]

/-- R117, R164: the policy as stored, field by field. -/
theorem clampPolicy_eq (a : AssocId) (r : Assoc) (p : Policy) : clampPolicy a r p =
    { direction := if a = 0 then .both else p.direction
      trafficClass := if a = 0 then .control else p.trafficClass
      hardLimit := clampHard (if a = 0 then 4294967295 else p.hardLimit) r.highestWear
      softLimit := clampSoft p.softLimit (clampHard (if a = 0 then 4294967295 else p.hardLimit) r.highestWear)
      maxKeyAge := p.maxKeyAge
      drainPeriod := if p.drainPeriod = 0 then 1 else p.drainPeriod
      renewInterval := if p.renewInterval.toNat < 10 then 10 else p.renewInterval } := by
  unfold clampPolicy
  by_cases h : a = 0 <;> simp [h]

/-- An octet that is not 0 is at least 1. -/
theorem one_le_toNat_of_ne {n : Nat} {x : BitVec n} (h : x ≠ 0) : 1 ≤ x.toNat :=
  Nat.one_le_iff_ne_zero.2 fun e => h (by simpa [← BitVec.toNat_inj] using e)

/-- A period or a persistence written as 0 becomes 1. -/
theorem one_le_clampedByte (x : Byte) : 1 ≤ (if x = 0 then 1 else x : Byte).toNat := by
  split
  · decide
  · exact one_le_toNat_of_ne ‹_›

/-- R117, R164: the limits of a stored policy. -/
theorem clampPolicy_inRange (a : AssocId) (r : Assoc) (p : Policy) :
    1 ≤ (clampPolicy a r p).softLimit.toNat ∧
      (clampPolicy a r p).softLimit.toNat ≤ (clampPolicy a r p).hardLimit.toNat ∧
      1 ≤ (clampPolicy a r p).drainPeriod.toNat ∧ 10 ≤ (clampPolicy a r p).renewInterval.toNat := by
  rw [clampPolicy_eq]
  simp only [clampSoft_toNat, clampHard_toNat]
  refine ⟨by omega, by omega, one_le_clampedByte _, ?_⟩
  split
  · decide
  · omega

/-- R164: association 0's policy keeps its direction, class and hard limit. -/
theorem clampPolicy_management (r : Assoc) (p : Policy) : (clampPolicy 0 r p).hardLimit = 4294967295 ∧
    (clampPolicy 0 r p).direction = .both ∧ (clampPolicy 0 r p).trafficClass = .control := by
  rw [clampPolicy_eq]
  refine ⟨BitVec.eq_of_toNat_eq ?_, rfl, rfl⟩
  have := r.highestWear.isLt
  rw [clampHard_toNat]
  simp
  omega

/-! ## Monitors -/

/-- R130: the persistence as stored is from 1 to 15. -/
def clampPersistence (x : Byte) : Byte := if x = 0 then 1 else if 15 < x.toNat then 15 else x

theorem clampPersistence_range (x : Byte) : 1 ≤ (clampPersistence x).toNat ∧ (clampPersistence x).toNat ≤ 15 := by
  unfold clampPersistence
  split
  · decide
  · split
    · decide
    · exact ⟨one_le_toNat_of_ne ‹_›, by omega⟩

/-- R130: the set level as stored leaves room for a clear level. -/
def MonitorConfig.clampedSet (c : MonitorConfig) : W32 :=
  match c.sense with
  | .rise => if c.setLevel = 0 then 1 else c.setLevel
  | .fall => if c.setLevel = 4294967295 then 4294967294 else c.setLevel

/-- R130: the clear level as stored lies beyond the set level. -/
def MonitorConfig.clampedClear (c : MonitorConfig) : W32 :=
  match c.sense with
  | .rise => if c.clearLevel.toNat < c.clampedSet.toNat then c.clearLevel else c.clampedSet - 1
  | .fall => if c.clampedSet.toNat < c.clearLevel.toNat then c.clearLevel else c.clampedSet + 1

/-- R130: the monitor record as stored, field by field. -/
theorem clampMonitor_eq (c : MonitorConfig) : clampMonitor c =
    { c with
      period := if c.period = 0 then 1 else c.period
      persistence := clampPersistence c.persistence
      setLevel := c.clampedSet
      clearLevel := c.clampedClear } := by
  unfold clampMonitor MonitorConfig.clampedClear MonitorConfig.clampedSet clampPersistence
  cases c.sense
  · simp only [← Nat.not_lt, ite_not]
  · simp only [← Nat.not_lt, ite_not]

/-- R130: the clear level as stored is below a rising set level. -/
theorem MonitorConfig.clampedClear_rise {c : MonitorConfig} (h : c.sense = .rise) :
    c.clampedClear.toNat < c.clampedSet.toNat := by
  have hs : 1 ≤ c.clampedSet.toNat := by
    simp only [MonitorConfig.clampedSet, h, toNat_atLeastOne]
    omega
  simp only [MonitorConfig.clampedClear, h]
  split
  · assumption
  · rw [BitVec.toNat_sub]
    simp
    omega

/-- R130: the clear level as stored is above a falling set level. -/
theorem MonitorConfig.clampedClear_fall {c : MonitorConfig} (h : c.sense = .fall) :
    c.clampedSet.toNat < c.clampedClear.toNat := by
  have hs : c.clampedSet.toNat < 4294967295 := by
    simp only [MonitorConfig.clampedSet, h]
    split
    · decide
    · rename_i hn
      have := c.setLevel.isLt
      have : c.setLevel.toNat ≠ 4294967295 := fun e => hn (BitVec.eq_of_toNat_eq e)
      omega
  simp only [MonitorConfig.clampedClear, h]
  split
  · assumption
  · rw [BitVec.toNat_add]
    simp
    omega

/-- R129, R130: the two conditions of a stored record never hold together. -/
theorem clampMonitor_conditions (c : MonitorConfig) (m : W32) :
    ¬((clampMonitor c).setHolds m = true ∧ (clampMonitor c).clearHolds m = true) := by
  rw [clampMonitor_eq]
  cases h : c.sense
  · have := MonitorConfig.clampedClear_rise h
    simp only [MonitorConfig.setHolds, MonitorConfig.clearHolds, decide_eq_true_eq]
    omega
  · have := MonitorConfig.clampedClear_fall h
    simp only [MonitorConfig.setHolds, MonitorConfig.clearHolds, decide_eq_true_eq]
    omega

theorem clampMonitor_sense (c : MonitorConfig) : (clampMonitor c).sense = c.sense := by rw [clampMonitor_eq]
theorem clampMonitor_setLevel (c : MonitorConfig) : (clampMonitor c).setLevel = c.clampedSet := by rw [clampMonitor_eq]
theorem clampMonitor_clearLevel (c : MonitorConfig) : (clampMonitor c).clearLevel = c.clampedClear := by
  rw [clampMonitor_eq]

/-- R130: a clamped set level is in range. -/
theorem MonitorConfig.clampedSet_idem (c : MonitorConfig) : (clampMonitor c).clampedSet = c.clampedSet := by
  unfold MonitorConfig.clampedSet
  rw [clampMonitor_sense, clampMonitor_setLevel]
  unfold MonitorConfig.clampedSet
  have low (x : W32) : (if x = 0 then 1 else x : W32) ≠ 0 := by split <;> simp_all
  have high (x : W32) : (if x = 4294967295 then 4294967294 else x : W32) ≠ 4294967295 := by split <;> simp_all
  cases c.sense
  · exact if_neg (low _)
  · exact if_neg (high _)

/-- R130: a clamped clear level is in range. -/
theorem MonitorConfig.clampedClear_idem (c : MonitorConfig) : (clampMonitor c).clampedClear = c.clampedClear := by
  rw [MonitorConfig.clampedClear, MonitorConfig.clampedSet_idem, clampMonitor_sense, clampMonitor_clearLevel]
  cases h : c.sense
  · exact if_pos (MonitorConfig.clampedClear_rise h)
  · exact if_pos (MonitorConfig.clampedClear_fall h)

/-- R130: a clamped record is in range, so that clamping it again changes nothing. -/
theorem clampMonitor_idem (c : MonitorConfig) : clampMonitor (clampMonitor c) = clampMonitor c := by
  have hp (x : Byte) : (if (if x = 0 then 1 else x : Byte) = 0 then 1 else if x = 0 then 1 else x : Byte) =
      if x = 0 then 1 else x := by split <;> simp_all
  have hn (x : Byte) : clampPersistence (clampPersistence x) = clampPersistence x := by
    obtain ⟨h1, h15⟩ := clampPersistence_range x
    have h0 : clampPersistence x ≠ 0 := fun e => by rw [e] at h1; exact absurd h1 (by decide)
    rw [clampPersistence, if_neg h0, if_neg (by omega)]
  rw [clampMonitor_eq (clampMonitor c), MonitorConfig.clampedSet_idem, MonitorConfig.clampedClear_idem]
  simp only [clampMonitor_eq, hp, hn]

/-- Settles O16: the stored policy and the stored monitor record, field by field. -/
theorem writtenLimitsAreClampedIntoRange : Obligations.WrittenLimitsAreClampedIntoRange := by
  refine ⟨⟨clampHard_toNat, fun w h _ => clampSoft_toNat w h, Assoc.highestWear_toNat, clampPolicy_eq,
    fun a r p => ?_⟩, fun c => ?_, fun c => ?_⟩
  · obtain ⟨wA, wB⟩ := clampPolicy_withinLimit a r p
    obtain ⟨soft, below, drain, interval⟩ := clampPolicy_inRange a r p
    exact ⟨wA, wB, soft, below, drain, interval, fun h => h ▸ clampPolicy_management r p⟩
  · rw [clampMonitor_eq]
    refine ⟨rfl, rfl, fun h => ⟨?_, ?_⟩, fun h => ⟨?_, ?_⟩⟩
    · simp only [MonitorConfig.clampedSet, h]
    · simp only [MonitorConfig.clampedClear, h]
    · simp only [MonitorConfig.clampedSet, h]
    · simp only [MonitorConfig.clampedClear, h]
  · refine ⟨?_, ?_, ?_, clampMonitor_conditions c, clampMonitor_idem c, ?_⟩
    · rw [clampMonitor_eq]
      exact one_le_clampedByte _
    · rw [clampMonitor_eq]
      exact (clampPersistence_range _).1
    · rw [clampMonitor_eq]
      exact (clampPersistence_range _).2
    · rw [clampMonitor_eq]

end Sys2Proof.Machine
end

section
/-! The Cipher Engine's admissions and its arbiter (R43, R49, R50, R52, R58). -/

namespace Sys2Proof.Machine

/-! ## Banks -/

/-- Law 1: the ACTIVE bank is the one an association reads as its ACTIVE bank. -/
theorem Assoc.BanksInOrder.activeBank_eq {r : Assoc} (h : r.BanksInOrder) {b : BankId}
    (hb : (r.bank b).state = .active) : r.activeBank = some b := by
  cases b with
  | bankA => exact if_pos hb
  | bankB =>
    have hA : r.bankA.state ≠ .active := fun e => by
      have hc := (h.selectorA e).symm.trans (h.selectorB hb)
      cases hc
    exact (if_neg hA).trans (if_pos hb)

/-- No bank is ACTIVE. -/
theorem Assoc.activeBank_eq_none {r : Assoc} : r.activeBank = none ↔ ∀ b, (r.bank b).state ≠ .active := by
  rw [Assoc.activeBank, Assoc.bankIn_none]
  exact ⟨fun ⟨hA, hB⟩ b => by cases b <;> assumption, fun h => ⟨h .bankA, h .bankB⟩⟩

/-- R52, R58, R74: the states and the generation of a usable bank. -/
theorem Bank.usableFor_iff (k : Bank) (g : W16) : k.usableFor g = true ↔
    (k.state = .active ∨ k.state = .fresh ∨ k.state = .draining) ∧ k.generation = g := by
  simp [Bank.usableFor, or_assoc]

theorem Bank.bears_iff (k : Bank) (w : Nat) (hard : W32) : k.bears w hard = true ↔ k.wear.toNat + w ≤ hard.toNat := by
  simp [Bank.bears]

theorem Direction.allowsOutbound_iff (d : Direction) : d.allowsOutbound = true ↔ d ≠ .inbound := by
  cases d <;> simp [Direction.allowsOutbound]

theorem Direction.allowsInbound_iff (d : Direction) : d.allowsInbound = true ↔ d ≠ .outbound := by
  cases d <;> simp [Direction.allowsInbound]

/-! ## Outbound admission (R49, R50) -/

/-- R49: an outbound item whose association does not send is refused. -/
theorem State.admitOutbound_dropped {s : State} {i : OutItem}
    (h : (s.assoc i.assoc).state ≠ .live ∨ (s.assoc i.assoc).direction = .inbound ∨
      ∀ b, ((s.assoc i.assoc).bank b).state ≠ .active) : s.admitOutbound i = s.countAssoc i.assoc .stateDrop := by
  unfold State.admitOutbound
  extract_lets r
  split
  · rfl
  · rename_i b hb
    rw [if_pos]
    rw [Direction.allowsOutbound_iff]
    rintro ⟨hl, hd⟩
    rcases h with h | h | h
    · exact h hl
    · exact hd h
    · exact h b (Assoc.bankIn_state hb)

/-- R49, R50: what the admission of an association that sends comes to. -/
theorem State.admitOutbound_sends {s : State} {i : OutItem} {b : BankId} (ho : (s.assoc i.assoc).BanksInOrder)
    (hb : ((s.assoc i.assoc).bank b).state = .active) (hl : (s.assoc i.assoc).state = .live)
    (hd : (s.assoc i.assoc).direction ≠ .inbound) :
    s.admitOutbound i =
      if ((s.assoc i.assoc).bank b).nextSequence ≠ 4294967295 ∧
          ((s.assoc i.assoc).bank b).wear.toNat + frameCost i.plaintext.length ≤ (s.assoc i.assoc).policy.hardLimit.toNat
      then s.bindOutbound i b else s.exhaust i.assoc b := by
  unfold State.admitOutbound
  simp only [ho.activeBank_eq hb, hl, Direction.allowsOutbound_iff, hd, ne_eq, not_false_eq_true, and_self, not_true_eq_false,
    if_false, Bank.bears_iff]
  by_cases hn : ((s.assoc i.assoc).bank b).nextSequence = 4294967295
  · simp only [hn, if_true, not_true_eq_false, false_and, if_false]
  · simp only [hn, if_false, not_false_eq_true, true_and]

/-- R50: an item that is bound. -/
theorem State.bindOutbound_eq (s : State) (i : OutItem) (b : BankId) : s.bindOutbound i b =
    let r := s.assoc i.assoc
    let k := r.bank b
    ({ s with
        assocs := s.assocs.set i.assoc
          { r.setBank b
              { k with
                wear := k.wear + BitVec.ofNat 32 (frameCost i.plaintext.length), inUse := k.inUse + 1
                nextSequence := k.nextSequence + 1 }
            with inFlight := r.inFlight + 1 }
        sendQueue :=
          { s.sendQueue with
            reserved := s.sendQueue.reserved ++
              [({ place := s.classOf i.assoc, restartMark := i.restartMark } : ReservedPlace)] }
        engine :=
          { s.engine with
            current := some (.outbound i.assoc b (s.classOf i.assoc)
              (sealFrame k.key s.identity.station i.assoc k.generation k.nextSequence i.restartMark
                i.plaintext)) } } : State).evaluateDue i.assoc := rfl

/-! ## Inbound admission (R52) -/

/-- R52: what the admission of an association that receives comes to. -/
theorem State.admitInbound_receives {s : State} {i : InItem} (hl : (s.assoc i.assoc).state = .live)
    (hd : (s.assoc i.assoc).direction ≠ .outbound) :
    s.admitInbound i =
      if ((s.assoc i.assoc).bank i.bank).usableFor i.generation = true then
        if ((s.assoc i.assoc).bank i.bank).wear.toNat + frameCost i.ciphertext.length ≤
            (s.assoc i.assoc).policy.hardLimit.toNat
        then s.bindInbound i else s.exhaust i.assoc i.bank
      else s.countAssoc i.assoc .staleGen := by
  unfold State.admitInbound
  simp only [hl, Direction.allowsInbound_iff, hd, ne_eq, not_false_eq_true, and_self, not_true_eq_false, if_false,
    Bank.bears_iff]
  cases ((s.assoc i.assoc).bank i.bank).usableFor i.generation <;> simp

/-- R52: an inbound item whose association does not receive is refused. -/
theorem State.admitInbound_dropped {s : State} {i : InItem}
    (h : (s.assoc i.assoc).state ≠ .live ∨ (s.assoc i.assoc).direction = .outbound) :
    s.admitInbound i = s.countAssoc i.assoc .stateDrop := by
  unfold State.admitInbound
  refine if_pos ?_
  rw [Direction.allowsInbound_iff]
  tauto

theorem State.bindInbound_eq (s : State) (i : InItem) : s.bindInbound i =
    let r := s.assoc i.assoc
    let k := r.bank i.bank
    ({ s with
        assocs := s.assocs.set i.assoc
          { r.setBank i.bank
              { k with wear := k.wear + BitVec.ofNat 32 (frameCost i.ciphertext.length), inUse := k.inUse + 1 } with
            inFlight := r.inFlight + 1 }
        engine :=
          { s.engine with
            current := some (.inbound i
              (applyKeystream k.key i.assoc 0xF0 k.generation i.sequence i.ciphertext)
              (frameTag k.key i.header i.ciphertext)) } } : State).evaluateDue i.assoc := rfl

/-! ## The arbiter (R43) -/

/-- R43: the outbound side is ready when a place of its head's class is free. -/
theorem State.outboundReady_iff (s : State) : s.outboundReady = true ↔
    ∃ i l, s.engine.outbound = i :: l ∧ s.sendQueue.taken < 32 ∧
      (i.assoc = 0 ∨ (s.assoc i.assoc).trafficClass = .control ∨ s.sendQueue.takenTraffic < 28) := by
  unfold State.outboundReady
  cases s.engine.outbound with
  | nil => simp
  | cons i l =>
    unfold State.classOf SendQueue.placeFree
    by_cases h0 : i.assoc = 0
    · simp [h0]
    · cases hc : (s.assoc i.assoc).trafficClass <;> simp [h0, hc]

/-- R18, R116: a refusal for want of room, spelled out. -/
theorem State.exhaust_eq (s : State) (a : AssocId) (b : BankId) : s.exhaust a b =
    let t := s.countAssoc a .exhaustDrop
    if (s.bank a b).exhausted then t
    else
      ({ t with assocs := t.assocs.set a ((t.assoc a).setBank b { s.bank a b with exhausted := true }) } : State).handReport
        { kind := .keyExhausted, severity := 4, source := .association a, value := none } := by
  have h : (s.countAssoc a .exhaustDrop).bank a b = s.bank a b := by
    simp only [State.bank, State.countAssoc, State.assoc_modAssoc_same]
    cases b <;> rfl
  unfold State.exhaust
  rw [← h]
  rfl

/-- R144 to R149: a report handed over leaves the association records. -/
@[simp] theorem State.handReport_assocs (s : State) (p : Report) : (s.handReport p).assocs = s.assocs := by
  obtain ⟨q, l, c, e⟩ := s.handReport_frame p
  rw [e]

@[simp] theorem State.handReport_assoc (s : State) (p : Report) (a : AssocId) : (s.handReport p).assoc a = s.assoc a :=
  State.assoc_congr (s.handReport_assocs p) a

/-- R18, R116: a refusal for want of room leaves every transaction. -/
theorem State.exhaust_transaction (s : State) (a c : AssocId) (b : BankId) :
    ((s.exhaust a b).assoc c).transaction = (s.assoc c).transaction := by
  have count : ((s.countAssoc a .exhaustDrop).assoc c).transaction = (s.assoc c).transaction := by
    rw [State.countAssoc, State.assoc_modAssoc]
    split
    · simp_all
    · rfl
  unfold State.exhaust
  extract_lets t
  split
  · exact count
  · rw [State.handReport_assoc, ← count, State.modBank, State.assoc_modAssoc]
    split
    · subst_vars
      cases b <;> rfl
    · rfl

/-- Settles O36: each admission by the tests it makes, in their order, and the arbiter by what is ready. -/
theorem outboundAdmissionBindsTheItem : Obligations.OutboundAdmissionBindsTheItem := by
  unfold Obligations.OutboundAdmissionBindsTheItem
  intro exhausted
  have hex (s : State) (a : AssocId) (b : BankId) : s.exhaust a b = exhausted s a b := s.exhaust_eq a b
  refine ⟨?outboundDropped, ?outbound, ?inbound, ?unwrap, ?arbiter⟩
  case outboundDropped =>
    intro s i r h
    exact State.admitOutbound_dropped h
  case outbound =>
    intro s i b r k w ho hb
    refine ⟨fun hl hd hn hw => ?_, fun hl hd hx => ?_⟩
    · rw [State.admitOutbound_sends ho hb hl hd, if_pos ⟨hn, hw⟩]
      exact s.bindOutbound_eq i b
    · rw [State.admitOutbound_sends ho hb hl hd, if_neg (fun h => hx.elim h.1 (Nat.not_lt.2 h.2)), hex]
  case inbound =>
    intro s i r k w usable
    refine ⟨State.admitInbound_dropped, fun hl hd => ?_⟩
    rw [State.admitInbound_receives hl hd]
    have hu : k.usableFor i.generation = true ↔ usable := k.usableFor_iff _
    refine ⟨fun h => if_neg (by rwa [hu]), fun h hw => ?_, fun h hw => ?_⟩
    · rw [if_pos (hu.2 h), if_pos hw]
      exact s.bindInbound_eq i
    · rw [if_pos (hu.2 h), if_neg (Nat.not_le.2 hw), hex]
  case unwrap =>
    intro s i r k usable
    have hu : k.usableFor i.bankGeneration = true ↔ usable := k.usableFor_iff _
    have hb : (s.bank 0 i.bank).bears unwrapCost (s.assoc 0).policy.hardLimit = true ↔
        k.wear.toNat + 6 ≤ r.policy.hardLimit.toNat := k.bears_iff _ _
    refine ⟨fun h hw => ?_, fun tr ht => ⟨fun h => ?_, fun h hw => ?_⟩⟩
    · rw [State.admitUnwrap, if_neg (by rw [Bool.not_eq_false]; exact hu.2 h), if_pos (hb.2 hw)]
      rfl
    · rw [State.admitUnwrap, if_pos (by rw [← Bool.not_eq_true]; exact fun e => h (hu.1 e)),
        State.endTransaction_eq _ ht]
      rfl
    · intro t
      have ht' : (t.assoc i.target).transaction = some tr := ht
      have hx : ((exhausted t 0 i.bank).assoc i.target).transaction = some tr := by
        rw [← hex, State.exhaust_transaction, ht']
      rw [State.admitUnwrap, if_neg (by rw [Bool.not_eq_false]; exact hu.2 h), if_neg (fun e => Nat.not_le.2 hw (hb.1 e)),
        hex, hex, show s.spendChoice = t from rfl, State.endTransaction_eq _ ht', State.endTransaction_eq _ hx]
      rfl
  case arbiter =>
    intro s q traffic places eligible
    have he : s.outboundReady = true ↔ eligible := s.outboundReady_iff
    refine ⟨State.arbiterChoice_busy, fun hc => ⟨fun i l hu => ⟨?_, ?_⟩, fun hu => ⟨fun hi hn => ?_,
      fun i l hi hx => ⟨?_, ?_⟩, fun i l hr ho hx => ⟨?_, ?_⟩⟩⟩⟩
    · simp [State.arbiterChoice, hc, hu]
    · simp only [State.serve, State.serveUnwrap, hu]
      rfl
    · rw [← he] at hn
      simp [State.arbiterChoice, hc, hu, hi, hn]
    · rw [← he] at hx
      rcases hx with hx | hx <;> simp [State.arbiterChoice, hc, hu, hi, hx]
    · simp only [State.serve, State.serveInbound, hi]
      rfl
    · rw [← he] at hr
      rcases hx with hx | hx
      · simp [State.arbiterChoice, hc, hu, hx, hr]
      · by_cases hi : s.engine.inbound = [] <;> simp [State.arbiterChoice, hc, hu, hx, hr, hi]
    · simp only [State.serve, State.serveOutbound, ho]
      rfl

end Sys2Proof.Machine
end

section
/-! The engine's outbound and inbound completions (R51, R53 to R57). -/

namespace Sys2Proof.Machine

/-! ## The end of a frame item (R3, R15, R16) -/

/-- R15, R16, R19: the record of a frame item's association after the item has been counted and has left its bank. -/
def Assoc.itemEnded (r : Assoc) (b : BankId) (c : AssocCounter) : Assoc :=
  { r.setBank b (r.bank b).release with
    inFlight := r.inFlight - 1, counters := r.counters.set c.index (satInc r.counters[c.index]) }

/-- R3: the end of an item of an association that keeps running, or has more work in flight. -/
theorem State.countAssoc_releaseItem {s : State} {a : AssocId} (b : BankId) (c : AssocCounter)
    (h : (s.assoc a).state ≠ .closing ∨ 1 < (s.assoc a).inFlight) :
    (s.countAssoc a c).releaseItem a b = s.setAssoc a ((s.assoc a).itemEnded b c) := by
  rw [State.countAssoc, State.releaseItem, State.modAssoc_modAssoc, State.modAssoc, Assoc.landed, Assoc.settleClosing, if_neg]
  · cases b <;> rfl
  · simp only [Assoc.setBank_state, Assoc.setBank_inFlight]
    rintro ⟨hs, hf⟩
    rcases h with h | h
    · exact h hs
    · omega

/-- R6: a CLOSING association whose last item ends becomes VACANT. -/
theorem State.countAssoc_releaseItem_last {s : State} {a : AssocId} (b : BankId) (c : AssocCounter)
    (h : (s.assoc a).state = .closing) (hf : (s.assoc a).inFlight ≤ 1) :
    (s.countAssoc a c).releaseItem a b = s.setAssoc a { (s.assoc a).vacated with inFlight := 0 } := by
  have hz : (s.assoc a).inFlight - 1 = 0 := by omega
  rw [State.countAssoc, State.releaseItem, State.modAssoc_modAssoc, State.modAssoc, Assoc.landed, Assoc.settleClosing, if_pos]
  · cases b <;> simp [Assoc.setBank, Assoc.vacated, hz]
  · simp [h, hz]

/-! ## Outbound completion (R51) -/

/-- R51: an outbound item of a LIVE association fills its place. -/
theorem State.completeOutbound_filled {s : State} {a : AssocId} (b : BankId) (c : TrafficClass) (f : SealedFrame)
    (h : (s.assoc a).state = .live) :
    s.completeOutbound a b c f =
      (s.engineIdle.fillPlace c f).setAssoc a ((s.assoc a).itemEnded b .enciphered) := by
  rw [State.completeOutbound, if_pos (show (s.engineIdle.assoc a).state = .live from h)]
  exact State.countAssoc_releaseItem b .enciphered (.inl fun e => by cases e.symm.trans h)

/-- R51: an outbound item of any other association frees its place. -/
theorem State.completeOutbound_freed {s : State} {a : AssocId} (b : BankId) (c : TrafficClass) (f : SealedFrame)
    (h : (s.assoc a).state ≠ .live) :
    s.completeOutbound a b c f =
      ((s.engineIdle.modSendQueue (fun q => q.unreserve c)).countAssoc a .stateDrop).releaseItem a b := by
  rw [State.completeOutbound, if_neg (show (s.engineIdle.assoc a).state ≠ .live from h)]

/-- R51: an outbound completion leaves the engine IDLE and its queues as they are. -/
theorem State.completeOutbound_frame (s : State) (a : AssocId) (b : BankId) (c : TrafficClass) (f : SealedFrame) :
    (s.completeOutbound a b c f).engine = s.engineIdle.engine ∧
      (s.completeOutbound a b c f).management = s.management := by
  by_cases h : (s.assoc a).state = .live
  · rw [State.completeOutbound_filled b c f h]
    exact ⟨rfl, rfl⟩
  · rw [State.completeOutbound_freed b c f h]
    exact ⟨rfl, rfl⟩

/-- R51: outbound completion with nothing waiting ends with its own effect. -/
theorem exec_outboundCompletion_nothing {s : State} {a : AssocId} {b : BankId} {c : TrafficClass} {f : SealedFrame}
    (h : s.NothingWaits) (hc : s.engine.current = some (.outbound a b c f)) :
    exec .outboundCompletion s = .next (s.completeOutbound a b c f) := by
  obtain ⟨he, hm⟩ := s.completeOutbound_frame a b c f
  have hs : (s.completeOutbound a b c f).settle = s.completeOutbound a b c f :=
    State.settle_nothing (by rw [he]; exact h.outbound) (by rw [he]; exact h.inbound) (by rw [he]; exact h.unwrap)
      (by rw [hm, h.inbox])
  simp only [exec, execOutboundCompletion, State.event, h.running, Bool.and_self, if_true, State.outboundDone, hc, hs]

/-- R80: the frame of the one reserved place fills it. -/
theorem SendQueue.fill_single {q : SendQueue} {c : TrafficClass} {m : Bool} (f : SealedFrame)
    (h : q.reserved = [{ place := c, restartMark := m }]) :
    q.fill c f = { q with reserved := [] }.setFilled c (q.filled c ++ [f]) := by
  cases c <;> simp [SendQueue.fill, SendQueue.unreserve, SendQueue.setFilled, SendQueue.filled, h]

/-- R80: the one reserved place is freed. -/
theorem SendQueue.unreserve_single {q : SendQueue} {c : TrafficClass} {m : Bool}
    (h : q.reserved = [{ place := c, restartMark := m }]) : q.unreserve c = { q with reserved := [] } := by
  simp [SendQueue.unreserve, h]

/-- Settles O37: the completion by the state of the association, the place being the one that is reserved. -/
theorem outboundCompletionFillsOrFreesThePlace : Obligations.OutboundCompletionFillsOrFreesThePlace := by
  unfold Obligations.OutboundCompletionFillsOrFreesThePlace
  intro s a b c f m h hc hq r k empty released done idle
  rw [exec_outboundCompletion_nothing h hc]
  have freed (hl : r.state ≠ .live) : s.completeOutbound a b c f =
      (({ idle with sendQueue := { s.sendQueue with reserved := [] } } : State).countAssoc a .stateDrop).releaseItem a b := by
    rw [State.completeOutbound_freed b c f hl, ← SendQueue.unreserve_single hq]
    rfl
  refine ⟨fun hl => ?_, fun hs => ?_, fun hs hf => ?_⟩
  · rw [State.completeOutbound_filled b c f hl]
    simp only [State.fillPlace, State.modSendQueue, State.engineIdle_sendQueue, SendQueue.fill_single f hq]
    rfl
  · rw [freed (by rcases hs with hs | ⟨hs, _⟩ <;> simp [hs]), State.countAssoc_releaseItem]
    · rfl
    · rcases hs with hs | ⟨_, hf⟩
      · exact .inl (show r.state ≠ .closing by simp [hs])
      · exact .inr hf
  · rw [freed (by simp [hs]), State.countAssoc_releaseItem_last]
    · rfl
    · exact hs
    · exact Nat.le_of_eq hf

end Sys2Proof.Machine
end

section
/-! The engine's inbound completion (R53 to R57), without and with a promotion. -/

namespace Sys2Proof.Machine

/-! ## Settling -/

/-- R44, R158: no inbound or unwrap item waits, the outbound head finds no place, and no message can be taken. -/
structure State.Settled (s : State) : Prop where
  inbound : s.engine.inbound = []
  unwrap : s.engine.unwrap = []
  outbound : s.engine.outbound = [] ∨ 32 ≤ s.sendQueue.taken
  inbox : s.management.inbox = [] ∨ s.management.answerOutstanding = true

theorem State.Settled.settle {s : State} (h : s.Settled) : s.settle = s := by
  have hr : ¬s.outboundReady = true := by
    rw [State.outboundReady_iff]
    rintro ⟨i, l, ho, ht, _⟩
    rcases h.outbound with h | h
    · simp [h] at ho
    · omega
  refine State.settle_self ?_ ?_
  · rcases h.inbox with h | h <;> simp [State.canTake, h]
  · simp [State.arbiterChoice, h.inbound, h.unwrap, hr]

/-- R44, R158: an event that ends settled. -/
theorem State.Settled.outcome {t u : State} (h : t.Settled) (e : t = u) : (.next t.settle : Result) = .next u := by
  rw [h.settle, e]

/-- Log entry 8: a command that is a control message is its message's arrival. -/
theorem exec_message {c : Instr} {m : ControlMessage} (h : messageOf c = some m) (s : State) :
    exec c s = s.messageEvent m := by
  cases c <;> cases h <;> rfl

/-! ## Acceptance (R55 to R57) -/

theorem State.modAssoc_eq_setAssoc (s : State) (a : AssocId) (f : Assoc → Assoc) :
    s.modAssoc a f = s.setAssoc a (f (s.assoc a)) := rfl

/-- R3, R56: the end of an item of a LIVE association. -/
theorem State.releaseItem_live {s : State} {a : AssocId} (b : BankId) (h : (s.assoc a).state = .live) :
    s.releaseItem a b = s.setAssoc a
      { (s.assoc a).setBank b ((s.assoc a).bank b).release with inFlight := (s.assoc a).inFlight - 1 } := by
  rw [State.releaseItem, State.modAssoc, Assoc.landed, Assoc.settleClosing, if_neg]
  · simp
  · simp [h]

/-- R53 to R56: the order of the completion's tests. -/
theorem State.completeInbound_eq (s : State) (i : InItem) (p g : List Byte) : s.completeInbound i p g =
    if g ≠ i.tag then (s.engineIdle.countAssoc i.assoc .tagFail).releaseItem i.assoc i.bank
    else if (s.assoc i.assoc).state ≠ .live then (s.engineIdle.countAssoc i.assoc .stateDrop).releaseItem i.assoc i.bank
    else if ((s.assoc i.assoc).bank i.bank).accepts i.sequence then
      ((s.engineIdle.acceptInbound i).deliver i p).releaseItem i.assoc i.bank
    else (s.engineIdle.countAssoc i.assoc .replay).releaseItem i.assoc i.bank := rfl

/-- R53: an inbound completion of a running part. -/
theorem exec_inboundCompletion {s : State} {i : InItem} {p g : List Byte} (hr : s.power.running = true)
    (hc : s.engine.current = some (.inbound i p g)) :
    exec .inboundCompletion s = .next (s.completeInbound i p g).settle := by
  simp only [exec, execInboundCompletion, State.event, hr, Bool.and_self, if_true, State.inboundDone, hc]

/-- R157: the Control Inbox does not read the association records. -/
theorem State.joinInbox_setAssoc (s : State) (a : AssocId) (r : Assoc) (m : ControlMessage) :
    (s.setAssoc a r).joinInbox m = (s.joinInbox m).setAssoc a r := by
  unfold State.joinInbox
  by_cases h : s.management.inbox.length < 4
  · rw [if_pos h, if_pos (show (s.setAssoc a r).management.inbox.length < 4 from h)]; rfl
  · rw [if_neg h, if_neg (show ¬(s.setAssoc a r).management.inbox.length < 4 from h)]; rfl

/-- R35: the Shop Delivery Queue does not read the association records. -/
theorem State.joinDelivery_setAssoc (s : State) (a : AssocId) (r : Assoc) (p : List Byte) :
    (s.setAssoc a r).joinDelivery p = (s.joinDelivery p).setAssoc a r := by
  unfold State.joinDelivery
  by_cases h : s.shop.delivery.length < 16
  · rw [if_pos h, if_pos (show (s.setAssoc a r).shop.delivery.length < 16 from h)]; rfl
  · rw [if_neg h, if_neg (show ¬(s.setAssoc a r).shop.delivery.length < 16 from h)]; rfl

/-- R57: delivery reads an association's record only for the generation of the bank. -/
theorem State.deliver_setAssoc (s : State) (i : InItem) (p : List Byte) (r : Assoc)
    (h : (r.bank i.bank).generation = ((s.assoc i.assoc).bank i.bank).generation) :
    (s.setAssoc i.assoc r).deliver i p = (s.deliver i p).setAssoc i.assoc r := by
  unfold State.deliver
  by_cases h0 : i.assoc = 0
  · have hg : ((s.setAssoc i.assoc r).bank 0 i.bank).generation = (s.bank 0 i.bank).generation := by
      rw [h0] at h ⊢
      simp only [State.bank, State.assoc_setAssoc, if_true, h]
    rw [if_pos h0, if_pos h0, hg, State.joinInbox_setAssoc]
  · rw [if_neg h0, if_neg h0, State.joinDelivery_setAssoc]

theorem State.deliver_assocs (s : State) (i : InItem) (p : List Byte) : (s.deliver i p).assocs = s.assocs := by
  unfold State.deliver State.joinInbox State.joinDelivery
  split <;> split <;> rfl

theorem State.setAssoc_setAssoc (s : State) (a : AssocId) (q r : Assoc) : (s.setAssoc a q).setAssoc a r = s.setAssoc a r := by
  simp [State.setAssoc]

/-- R53 to R57: an accepted frame of a LIVE association whose acceptance stores `r` is delivered, and then leaves. -/
theorem State.delivered_released {s : State} {i : InItem} (p : List Byte) {r : Assoc}
    (hs : r.state = .live) (hg : (r.bank i.bank).generation = ((s.assoc i.assoc).bank i.bank).generation) :
    ((s.setAssoc i.assoc r).deliver i p).releaseItem i.assoc i.bank =
      (s.deliver i p).setAssoc i.assoc { r.setBank i.bank (r.bank i.bank).release with inFlight := r.inFlight - 1 } := by
  have hr : ((s.deliver i p).setAssoc i.assoc r).assoc i.assoc = r := by simp [State.assoc_setAssoc]
  rw [State.deliver_setAssoc s i p r hg, State.releaseItem_live _ (by rw [hr, hs]), hr, State.setAssoc_setAssoc]

/-- R57: the four outcomes of a delivery. -/
theorem State.deliver_shop {s : State} {i : InItem} (p : List Byte) (h : i.assoc ≠ 0) (hl : s.shop.delivery.length < 16) :
    s.deliver i p = { s with shop := { s.shop with delivery := s.shop.delivery ++ [p] }.start } := by
  rw [State.deliver, if_neg h, State.joinDelivery, if_pos hl]
  rfl

theorem State.deliver_shopFull {s : State} {i : InItem} (p : List Byte) (h : i.assoc ≠ 0)
    (hl : 16 ≤ s.shop.delivery.length) : s.deliver i p = s.countStation .deliveryDrop := by
  rw [State.deliver, if_neg h, State.joinDelivery, if_neg (Nat.not_lt.2 hl)]

/-- R57, R157: the message that a channel 0 frame carries. -/
def InItem.carried (i : InItem) (k : Bank) (p : List Byte) : ControlMessage :=
  { octets := p, via := { bank := i.bank, generation := k.generation, sequence := i.sequence } }

theorem State.deliver_inbox {s : State} {i : InItem} (p : List Byte) (h : i.assoc = 0) :
    s.deliver i p = s.joinInbox (i.carried ((s.assoc i.assoc).bank i.bank) p) := by
  rw [State.deliver, if_pos h, InItem.carried, h]
  rfl

/-- R56: the record that the acceptance of a frame leaves, once the item has left its bank. -/
theorem Assoc.accepted_released (r : Assoc) (b : BankId) (q : W32) :
    { (r.accepted b q).setBank b ((r.accepted b q).bank b).release with inFlight := (r.accepted b q).inFlight - 1 } =
      { r.setBank b ((r.bank b).mark q).release with
        inFlight := r.inFlight - 1, quiet := 0
        counters :=
          r.counters.set AssocCounter.deciphered.index (satInc r.counters[AssocCounter.deciphered.index]) } := by
  cases b <;> rfl

/-- R53 to R57: an accepted frame under a bank that is not FRESH. -/
theorem State.completeInbound_accepted {s : State} {i : InItem} (p : List Byte)
    (hl : (s.assoc i.assoc).state = .live) (ha : ((s.assoc i.assoc).bank i.bank).accepts i.sequence = true)
    (hf : ((s.assoc i.assoc).bank i.bank).state ≠ .fresh) :
    s.completeInbound i p i.tag =
      (s.engineIdle.deliver i p).setAssoc i.assoc
        { (s.assoc i.assoc).setBank i.bank (((s.assoc i.assoc).bank i.bank).mark i.sequence).release with
          inFlight := (s.assoc i.assoc).inFlight - 1, quiet := 0
          counters := (s.assoc i.assoc).counters.set AssocCounter.deciphered.index
            (satInc (s.assoc i.assoc).counters[AssocCounter.deciphered.index]) } := by
  rw [State.completeInbound_eq, if_neg (not_not.2 rfl), if_neg (not_not.2 hl), if_pos ha, State.acceptInbound_eq]
  rw [if_neg (show ¬(s.engineIdle.bank i.assoc i.bank).state = .fresh from hf), State.modAssoc_eq_setAssoc,
    State.delivered_released p ?_ ?_, Assoc.accepted_released]
  · rfl
  · cases hb : i.bank <;> exact hl
  · rw [Assoc.accepted_bank]
    obtain ⟨h, w, e⟩ := ((s.engineIdle.assoc i.assoc).bank i.bank).mark_frame i.sequence
    rw [e]

/-- R9, R157: a command whose message a channel 0 frame carries does what the message's arrival does. -/
theorem exec_carried {c : Instr} {m : ControlMessage} {s : State} {a : AssocId} {r : Assoc} (h : messageOf c = some m)
    (ha : a = 0) (hr : s.power.running = true) (hl : r.state = .live) :
    exec c (s.setAssoc a r) = .next ((s.joinInbox m).setAssoc a r).settle := by
  have hh : (s.setAssoc a r).hears = true := by simp [State.hears, State.assoc_setAssoc, hl, ha]
  have hp : (s.setAssoc a r).power.running = true := hr
  rw [exec_message h, State.messageEvent, State.event, hh, hp, ← State.joinInbox_setAssoc]
  rfl

/-- Settles O38: the completion's tests in their order, and the delivery of an accepted frame. -/
theorem inboundCompletionDecidesTheFrame : Obligations.InboundCompletionDecidesTheFrame := by
  unfold Obligations.InboundCompletionDecidesTheFrame
  intro s i p g hr hc settled r k idle released done refused carried
  rw [exec_inboundCompletion hr hc]
  have refusedBy (x : AssocCounter) (hs : settled) (hf : r.state ≠ .closing ∨ 1 < r.inFlight)
      (e : s.completeInbound i p g = (s.engineIdle.countAssoc i.assoc x).releaseItem i.assoc i.bank) : refused x := by
    obtain ⟨hin, hun, hout, hbox⟩ := hs
    show exec .inboundCompletion s = _
    rw [exec_inboundCompletion hr hc, e, State.countAssoc_releaseItem (s := s.engineIdle) i.bank x hf]
    exact State.Settled.outcome ⟨hin, hun, hout, hbox⟩ rfl
  refine ⟨fun hs hf hg => ?_, fun hs hf hl hg => ?_, fun hs hl hf => ?_, fun hs hl hg ha => ?_, fun hl hg ha hn => ?_⟩
  · exact refusedBy _ hs hf (by rw [State.completeInbound_eq, if_pos hg])
  · exact refusedBy _ hs hf (by rw [State.completeInbound_eq, if_neg (not_not.2 hg), if_pos hl])
  · obtain ⟨hin, hun, hout, hbox⟩ := hs
    have hv : s.completeInbound i p g = s.engineIdle.setAssoc i.assoc { r.vacated with inFlight := 0 } := by
      rw [State.completeInbound_eq]
      by_cases hg : g = i.tag
      · rw [if_neg (not_not.2 hg), if_pos (show r.state ≠ .live by simp [hl])]
        exact State.countAssoc_releaseItem_last _ _ hl hf
      · rw [if_pos hg]
        exact State.countAssoc_releaseItem_last _ _ hl hf
    rw [hv]
    exact State.Settled.outcome ⟨hin, hun, hout, hbox⟩ rfl
  · exact refusedBy _ hs (.inl (by simp [hl]))
      (by rw [State.completeInbound_eq, if_neg (not_not.2 hg), if_neg (not_not.2 hl), if_neg (by simpa using ha)])
  · subst hg
    rw [State.completeInbound_accepted p hl ha hn]
    refine ⟨fun ⟨hin, hun, hout, hbox⟩ h0 hd => ?_, fun ⟨hin, hun, hout, hbox⟩ h0 hd => ?_,
      fun ⟨hin, hun, hout, _⟩ h0 hm hd => ?_, fun ⟨hin, hun, hout, hbox⟩ h0 _ hd => ?_, fun h0 c h => ?_⟩
    · rw [State.deliver_shop (s := s.engineIdle) p h0 hd]
      exact State.Settled.outcome ⟨hin, hun, hout, hbox⟩ rfl
    · rw [State.deliver_shopFull (s := s.engineIdle) p h0 hd]
      exact State.Settled.outcome ⟨hin, hun, hout, hbox⟩ rfl
    · rw [State.deliver_inbox p h0, State.joinInbox, if_pos (show s.engineIdle.management.inbox.length < 4 from hd)]
      exact State.Settled.outcome ⟨hin, hun, hout, .inr hm⟩ rfl
    · rw [State.deliver_inbox p h0, State.joinInbox,
        if_neg (show ¬s.engineIdle.management.inbox.length < 4 from Nat.not_lt.2 hd)]
      exact State.Settled.outcome ⟨hin, hun, hout, hbox⟩ rfl
    · rw [State.deliver_inbox p h0]
      have live : ({ r.setBank i.bank (k.mark i.sequence).release with
          inFlight := r.inFlight - 1, quiet := 0
          counters := r.counters.set AssocCounter.deciphered.index
            (satInc r.counters[AssocCounter.deciphered.index]) } : Assoc).state = .live := by simpa using hl
      exact (exec_carried (s := s.engineIdle) h h0 hr live).symm

end Sys2Proof.Machine
end

section
/-! Renewal-due evaluated, spelled out; and what the engine does while only association 0's items wait (R43, R49, R50). -/

namespace Sys2Proof.Machine

/-! ## Renewal-due (R113, R114) -/

/-- R113, R114: a record after the evaluation of its renewal-due condition at the seconds count `now`. -/
def Assoc.evaluated (r : Assoc) (now : Nat) : Assoc :=
  { r with
    renewDeadline := if r.isDue = true then r.renewDeadline.or (some (now + r.policy.renewInterval.toNat)) else none }

/-- R115: the RENEW_REQUEST of an association whose ACTIVE bank is `b`. -/
def renewalItem (a : AssocId) (r : Assoc) (b : BankId) : OutItem :=
  { assoc := 0, plaintext := renewRequestOctets a r (r.bank b), restartMark := false, setsMark := false }

/-- R114: what becoming renewal-due sends, where there is control room. -/
def Assoc.requests (r : Assoc) (a : AssocId) (room : Bool) : List OutItem :=
  if r.isDue = true ∧ r.renewDeadline = none ∧ room = true then
    match r.activeBank with
    | none => []
    | some b => [renewalItem a r b]
  else []

/-- R113, R114: all that an evaluation changes. -/
theorem State.evaluateDue_eq (s : State) (a : AssocId) : s.evaluateDue a =
    { s with
      assocs := s.assocs.set a ((s.assoc a).evaluated s.now)
      engine := { s.engine with outbound := s.engine.outbound ++ (s.assoc a).requests a s.controlRoom } } := by
  conv_lhs => rw [← s.setAssoc_self a, State.evaluateDue_setAssoc]
  have hroom : s.controlRoom = true ↔ s.engine.outbound.length < 16 ∧ s.sendQueue.taken < 32 := by
    simp [State.controlRoom]
  generalize s.assoc a = r
  unfold State.renewalEvaluated Assoc.evaluated Assoc.requests
  by_cases hd : r.isDue = true
  · cases ht : r.renewDeadline with
    | some t => simp [hd]
    | none =>
      cases hb : r.activeBank with
      | none => simp [hd, State.now]
      | some b => by_cases hc : s.controlRoom = true <;> simp [hd, hc, ← hroom, State.now, renewalItem]
  · simp [hd]

/-- R112: the reasons do not depend on the items bound to a bank or in flight. -/
theorem Assoc.dueReasons_bound (r : Assoc) (b : BankId) (n m : Nat) :
    ({ r.setBank b { r.bank b with inUse := n } with inFlight := m } : Assoc).dueReasons = r.dueReasons := by
  have hb (c : BankId) (x : DueReason) : ({ r.setBank b { r.bank b with inUse := n } with inFlight := m } : Assoc).reasonHolds
      (({ r.setBank b { r.bank b with inUse := n } with inFlight := m } : Assoc).bank c) x =
        r.reasonHolds (r.bank c) x := by
    cases b <;> cases c <;> cases x <;> rfl
  have ha : ({ r.setBank b { r.bank b with inUse := n } with inFlight := m } : Assoc).activeBank = r.activeBank := by
    cases b <;> rfl
  unfold Assoc.dueReasons
  rw [ha]
  cases r.activeBank with
  | none => rfl
  | some c =>
    simp only [funext (hb c)]
    cases b <;> rfl

/-! ## Work of association 0 -/

/-- What stays while the engine and the Fault Report Queue work for association 0 alone. -/
structure State.OnlyManagement (s t : State) : Prop where
  records : ∀ a, a ≠ 0 → t.assoc a = s.assoc a
  shop : t.shop = s.shop
  counts : ∀ c, c ≠ .reportDrop → t.stationCount c = s.stationCount c
  inbound : t.engine.inbound = s.engine.inbound
  unwrap : t.engine.unwrap = s.engine.unwrap
  inbox : t.management.inbox = s.management.inbox
  outbound : (∀ i ∈ s.engine.outbound, i.assoc = 0) → ∀ i ∈ t.engine.outbound, i.assoc = 0

theorem State.OnlyManagement.refl (s : State) : s.OnlyManagement s :=
  ⟨fun _ _ => rfl, rfl, fun _ _ => rfl, rfl, rfl, rfl, id⟩

theorem State.OnlyManagement.trans {s t u : State} (h : s.OnlyManagement t) (k : t.OnlyManagement u) :
    s.OnlyManagement u :=
  ⟨fun a ha => (k.records a ha).trans (h.records a ha), k.shop.trans h.shop,
    fun c hc => (k.counts c hc).trans (h.counts c hc), k.inbound.trans h.inbound, k.unwrap.trans h.unwrap,
    k.inbox.trans h.inbox, fun ho => k.outbound (h.outbound ho)⟩

theorem State.OnlyManagement.modAssoc (s : State) (f : Assoc → Assoc) : s.OnlyManagement (s.modAssoc 0 f) :=
  ⟨fun _ ha => State.assoc_modAssoc_ne s f ha, rfl, fun _ _ => rfl, rfl, rfl, rfl, id⟩

theorem State.OnlyManagement.modReports (s : State) (f : ReportQueue → ReportQueue) : s.OnlyManagement (s.modReports f) :=
  ⟨fun _ _ => rfl, rfl, fun _ _ => rfl, rfl, rfl, rfl, id⟩

theorem State.OnlyManagement.spendChoice (s : State) : s.OnlyManagement s.spendChoice :=
  ⟨fun _ _ => rfl, rfl, fun _ _ => rfl, rfl, rfl, rfl, id⟩

theorem State.OnlyManagement.modSendQueue (s : State) (f : SendQueue → SendQueue) : s.OnlyManagement (s.modSendQueue f) :=
  ⟨fun _ _ => rfl, rfl, fun _ _ => rfl, rfl, rfl, rfl, id⟩

/-- R42: an item is taken into the engine. -/
theorem State.OnlyManagement.holding (s : State) (p : Option InProgress) :
    s.OnlyManagement (s.modEngine (fun e => { e with current := p })) :=
  ⟨fun _ _ => rfl, rfl, fun _ _ => rfl, rfl, rfl, rfl, id⟩

/-- An item of association 0 joins. -/
theorem State.OnlyManagement.joinOutbound (s : State) {i : OutItem} (h : i.assoc = 0) :
    s.OnlyManagement (s.joinOutbound i) :=
  ⟨fun _ _ => rfl, rfl, fun _ _ => rfl, rfl, rfl, rfl, fun ho j hj => by
    rcases List.mem_append.1 hj with hj | hj
    · exact ho j hj
    · rw [List.mem_singleton.1 hj, h]⟩

theorem State.OnlyManagement.offerReport (s : State) (r : ReportRecord) : s.OnlyManagement (s.offerReport r) := by
  unfold State.offerReport
  extract_lets ms set
  exact (State.OnlyManagement.joinOutbound s (by rfl)).trans (.modReports _ _)

theorem State.OnlyManagement.sendAttempt (s : State) : s.OnlyManagement s.sendAttempt :=
  State.attemptSend_keeps s.OnlyManagement (fun t r h _ _ _ _ => h.trans (.offerReport t r))
    (fun t _ h => h.trans (.modReports t _)) 5 s (.refl s)

theorem State.OnlyManagement.countReportDrop (s : State) : s.OnlyManagement s.countReportDrop := by
  have count : s.OnlyManagement (s.countStation .reportDrop) :=
    ⟨fun _ _ => rfl, rfl, fun c hc => by rw [State.stationCount_countStation, if_neg hc], rfl, rfl, rfl, id⟩
  exact count.trans (.modReports _ _)

theorem State.OnlyManagement.handReport (s : State) (p : Report) : s.OnlyManagement (s.handReport p) := by
  unfold State.handReport
  extract_lets now
  split
  · exact (State.OnlyManagement.modReports s _).trans (.sendAttempt _)
  · split
    · exact (State.OnlyManagement.modReports s _).trans (.sendAttempt _)
    · split
      · exact ((State.OnlyManagement.countReportDrop s).trans (.modReports _ _)).trans (.sendAttempt _)
      · exact (State.OnlyManagement.countReportDrop s).trans (.sendAttempt _)

theorem State.OnlyManagement.evaluateDue (s : State) : s.OnlyManagement (s.evaluateDue 0) := by
  rcases s.evaluateDue_cases 0 with ⟨_, _, h⟩ | ⟨_, _, h⟩ | ⟨_, h⟩ <;> rw [h]
  · exact .refl s
  · refine State.OnlyManagement.trans ?_ (.modAssoc _ _)
    rcases s.offerRenewRequest_cases 0 with h | ⟨p, _, h⟩ <;> rw [h]
    · exact .refl s
    · exact .joinOutbound s rfl
  · exact .modAssoc _ _

theorem State.OnlyManagement.exhaust (s : State) (b : BankId) : s.OnlyManagement (s.exhaust 0 b) := by
  unfold State.exhaust
  extract_lets t
  have h : s.OnlyManagement t := .modAssoc _ _
  split
  · exact h
  · exact (h.trans (.modAssoc _ _)).trans (.handReport _ _)

/-- R49, R50: the admission or refusal of an item of association 0. -/
theorem State.OnlyManagement.admitOutbound (s : State) {i : OutItem} (h : i.assoc = 0) :
    s.OnlyManagement (s.admitOutbound i) := by
  obtain ⟨a, p, m, k⟩ := i
  subst h
  unfold State.admitOutbound
  extract_lets r
  split
  · exact .modAssoc _ _
  · split
    · exact .modAssoc _ _
    · split
      · exact .exhaust _ _
      · split
        · refine State.OnlyManagement.trans ?_ (.evaluateDue _)
          exact ((State.OnlyManagement.modAssoc s _).trans (.modSendQueue _ _)).trans (.holding _ _)
        · exact .exhaust _ _

/-- R43: the outbound head of association 0 is taken. -/
theorem State.OnlyManagement.serveOutbound {s : State} (h : ∀ i ∈ s.engine.outbound, i.assoc = 0) :
    s.OnlyManagement s.serveOutbound := by
  unfold State.serveOutbound
  split
  · exact .refl s
  · rename_i i l hl
    rw [hl] at h
    have taken : s.OnlyManagement
        ((s.modEngine (fun e => { e with outbound := l, lastServed := .outbound })).modManagement (fun m =>
          { m with answerOutstanding := m.answerOutstanding && !i.setsMark })) :=
      ⟨fun _ _ => rfl, rfl, fun _ _ => rfl, rfl, rfl, rfl, fun _ j hj => h j (List.mem_cons_of_mem _ hj)⟩
    exact taken.trans (.admitOutbound _ (h i (by simp)))

/-- R44, R158: an event at which only items of association 0 wait. -/
theorem State.OnlyManagement.settle {s : State} (hi : s.engine.inbound = []) (hu : s.engine.unwrap = [])
    (hb : s.management.inbox = []) (ho : ∀ i ∈ s.engine.outbound, i.assoc = 0) : s.OnlyManagement s.settle := by
  refine State.settle_keeps s.OnlyManagement (fun t h ht => ?_) (fun t c h _ => h.trans ?_)
    (fun t h => h.trans (.spendChoice t)) s (.refl s)
  · rw [State.canTake_empty (h.inbox.trans hb)] at ht
    cases ht
  · cases c with
    | unwrap =>
      have hs : t.serve .unwrap = t := by simp only [State.serve, State.serveUnwrap, h.unwrap.trans hu]
      rw [hs]
      exact .refl t
    | inbound =>
      have hs : t.serve .inbound = t := by simp only [State.serve, State.serveInbound, h.inbound.trans hi]
      rw [hs]
      exact .refl t
    | outbound => exact .serveOutbound (h.outbound ho)

/-- R44: an event at whose end one item is taken, after which nothing can be. -/
theorem State.settle_serve {s : State} {c : ArbiterChoice} (ht : s.canTake = false) (hc : s.arbiterChoice = some c)
    (kt : (s.serve c).canTake = false) (kc : (s.serve c).arbiterChoice = none) : s.settle = s.serve c := by
  have hf : s.settleFuel = (s.settleFuel - 2) + 2 := by unfold State.settleFuel; omega
  rw [State.settle, hf, State.settleWith, ht, hc]
  simp [State.settleWith, kt, kc]

/-- R43, R49, R50: association 0, sound and LIVE, sends the head of its items as soon as a place is free. -/
theorem State.settle_sends {s : State} {i : OutItem} {l : List OutItem} {b : BankId} (hn : s.engine.current = none)
    (hi : s.engine.inbound = []) (hu : s.engine.unwrap = []) (hb : s.management.inbox = [])
    (ho : s.engine.outbound = i :: l) (h0 : i.assoc = 0) (hq : s.sendQueue.taken < 32) (hs : (s.assoc 0).Sound)
    (hl : (s.assoc 0).state = .live) (hd : (s.assoc 0).direction ≠ .inbound) (ha : ((s.assoc 0).bank b).state = .active)
    (hx : ((s.assoc 0).bank b).nextSequence ≠ 4294967295)
    (hw : ((s.assoc 0).bank b).wear.toNat + frameCost i.plaintext.length ≤ (s.assoc 0).policy.hardLimit.toNat) :
    s.settle.engine.current = some (.outbound 0 b .control
      (sealFrame ((s.assoc 0).bank b).key s.identity.station 0 ((s.assoc 0).bank b).generation
        ((s.assoc 0).bank b).nextSequence i.restartMark i.plaintext)) := by
  obtain ⟨a, p, m, k⟩ := i
  subst h0
  have hc : s.arbiterChoice = some .outbound := by
    have hr : s.outboundReady = true := s.outboundReady_iff.2 ⟨_, l, ho, hq, .inl rfl⟩
    simp [State.arbiterChoice, hn, hi, hu, hr]
  let u : State :=
    (s.modEngine (fun e => { e with outbound := l, lastServed := .outbound })).modManagement (fun m =>
      { m with answerOutstanding := m.answerOutstanding && !k })
  have hv : s.serve .outbound = u.bindOutbound { assoc := 0, plaintext := p, restartMark := m, setsMark := k } b := by
    have ht : s.serve .outbound = u.admitOutbound { assoc := 0, plaintext := p, restartMark := m, setsMark := k } := by
      simp only [State.serve, State.serveOutbound, ho]
      rfl
    rw [ht, State.admitOutbound_sends (s := u)
      (i := { assoc := 0, plaintext := p, restartMark := m, setsMark := k }) hs.banks ha hl hd, if_pos ⟨hx, hw⟩]
  have hcur : (s.serve .outbound).engine.current = some (.outbound 0 b .control
      (sealFrame ((s.assoc 0).bank b).key s.identity.station 0 ((s.assoc 0).bank b).generation
        ((s.assoc 0).bank b).nextSequence m p)) := by
    rw [hv, State.bindOutbound, State.evaluateDue_eq]
    rfl
  have hbox : (s.serve .outbound).management.inbox = [] := by
    rw [hv, State.bindOutbound, State.evaluateDue_eq]
    exact hb
  rw [State.settle_serve (State.canTake_empty hb) hc (State.canTake_empty hbox)
    (State.arbiterChoice_busy (by rw [hcur]; rfl)), hcur]

end Sys2Proof.Machine
end

section
/-! An accepted frame under a FRESH bank (R14, R56, R107, R113). -/

namespace Sys2Proof.Machine

/-! ## The Outbound Work Queue -/

/-- Items join the Outbound Work Queue at the tail. -/
def State.queued (s : State) (l : List OutItem) : State := s.modEngine (fun e => { e with outbound := e.outbound ++ l })

@[simp] theorem State.queued_nil (s : State) : s.queued [] = s := by simp [State.queued, State.modEngine]

/-- R113, R114: a record that is stored and evaluated. -/
theorem State.evaluateDue_stored (s : State) (a : AssocId) (r : Assoc) :
    (s.setAssoc a r).evaluateDue a = (s.queued (r.requests a s.controlRoom)).setAssoc a (r.evaluated s.now) := by
  rw [State.evaluateDue_eq]
  simp only [State.assoc_setAssoc, if_true, State.setAssoc_assocs, Vector.set_set]
  rfl

@[simp] theorem Assoc.evaluated_bank (r : Assoc) (now : Nat) (b : BankId) : (r.evaluated now).bank b = r.bank b := by
  cases b <;> rfl

/-- R114: no RENEW_REQUEST is sent but at becoming renewal-due with control room. -/
theorem Assoc.requests_silent {r : Assoc} (a : AssocId) {room : Bool}
    (h : r.isDue = false ∨ r.renewDeadline.isSome = true ∨ room = false) : r.requests a room = [] := by
  rw [Assoc.requests, if_neg]
  rintro ⟨hd, ht, hr⟩
  rcases h with h | h | h <;> simp_all

/-- R115: a RENEW_REQUEST reads the state, the reasons and the bank's generation, wear, sequence and age. -/
theorem renewRequestOctets_congr {a : AssocId} {r q : Assoc} {j k : Bank} (hs : r.state = q.state)
    (hd : r.dueReasons = q.dueReasons) (hg : j.generation = k.generation) (hw : j.wear = k.wear)
    (hn : j.nextSequence = k.nextSequence) (ha : j.keyAge = k.keyAge) :
    renewRequestOctets a r j = renewRequestOctets a q k := by
  simp only [renewRequestOctets, hs, hd, hg, hw, hn, ha]

theorem length_renewRequestOctets (a : AssocId) (r : Assoc) (k : Bank) : (renewRequestOctets a r k).length = 24 := by
  simp [renewRequestOctets, length_messageOctets]

/-! ## Promotion (R14) -/

/-- R55: a sequence that has been marked is not accepted again. -/
theorem Bank.mark_accepts {k : Bank} {q : W32} (h : k.accepts q = true) : (k.mark q).accepts q = false := by
  unfold Bank.accepts at h
  unfold Bank.mark
  split
  · simp [Bank.accepts]
  · rename_i hq
    rw [if_neg hq, Bool.and_eq_true, decide_eq_true_eq] at h
    simp [Bank.accepts, hq, h.1]

/-- R14, R56: the record that the acceptance under the FRESH bank `b` stores, before renewal-due is evaluated. -/
def Assoc.promotedBy (r : Assoc) (b : BankId) (q : W32) (now : Nat) : Assoc := (r.accepted b q).promote b now

/-- R107, R113: an acceptance under a FRESH bank. -/
theorem State.acceptInbound_fresh {s : State} {i : InItem} (hf : (s.bank i.assoc i.bank).state = .fresh) :
    s.acceptInbound i =
      (s.queued (((s.assoc i.assoc).promotedBy i.bank i.sequence s.now).requests i.assoc s.controlRoom)).setAssoc i.assoc
        (((s.assoc i.assoc).promotedBy i.bank i.sequence s.now).evaluated s.now) := by
  rw [State.acceptInbound_eq, if_pos hf, State.promote, State.modAssoc_modAssoc, State.modAssoc_eq_setAssoc,
    State.evaluateDue_stored]
  rfl

/-- Law 1: the other bank of a keyed association whose bank `b` is FRESH is its ACTIVE one. -/
theorem Assoc.Sound.other_active {r : Assoc} (h : r.Sound) (hl : r.state = .live) {b : BankId}
    (hf : (r.bank b).state = .fresh) : (r.bank (otherBank b)).state = .active := by
  have hk := h.keyed (.inl hl)
  cases hs : r.selector <;> rw [hs] at hk <;> cases b
  · rw [hk] at hf; cases hf
  · exact hk
  · exact hk
  · rw [hk] at hf; cases hf

/-- R14, R55, R56: the promoted record, its banks spelled out; `n` items stay bound to the new bank, `m` to the association. -/
theorem Assoc.promotedBy_bound {r : Assoc} {b : BankId} (q : W32) (now n m : Nat)
    (ho : (r.bank (otherBank b)).state = .active) :
    { (r.promotedBy b q now).setBank b { (r.promotedBy b q now).bank b with inUse := n } with inFlight := m } =
      { (r.setBank (otherBank b)
            { r.bank (otherBank b) with state := .draining, drainDeadline := some (now + r.policy.drainPeriod.toNat) }).setBank b
          { (r.bank b).mark q with state := .active, nextSequence := 1, keyAge := 0, inUse := n } with
        selector := b, monitorRenewal := false, inFlight := m, quiet := 0
        counters :=
          r.counters.set AssocCounter.deciphered.index (satInc r.counters[AssocCounter.deciphered.index]) } := by
  have hd (d : Nat) : (r.bank (otherBank b)).startDrain d =
      { r.bank (otherBank b) with state := .draining, drainDeadline := some d } := if_pos ho
  have hp : r.promotedBy b q now =
      { ((r.accepted b q).setBank (otherBank b) ((r.bank (otherBank b)).startDrain (now + r.policy.drainPeriod.toNat))).setBank b
          ((r.bank b).mark q).activate with
        selector := b, monitorRenewal := false } := by
    cases b <;> rfl
  rw [hp, hd]
  cases b <;> rfl

/-- Law 1: the promoted bank is the ACTIVE one. -/
theorem Assoc.promotedBy_activeBank (r : Assoc) (b : BankId) (q : W32) (now : Nat) :
    (r.promotedBy b q now).activeBank = some b := by
  cases b with
  | bankA => rfl
  | bankB => exact (if_neg (Bank.startDrain_state_ne _ _)).trans rfl

theorem Assoc.promotedBy_bank (r : Assoc) (b : BankId) (q : W32) (now : Nat) :
    (r.promotedBy b q now).bank b = ((r.bank b).mark q).activate := by cases b <;> rfl

theorem Assoc.promotedBy_frame (r : Assoc) (b : BankId) (q : W32) (now : Nat) :
    (r.promotedBy b q now).state = r.state ∧ (r.promotedBy b q now).policy = r.policy ∧
      (r.promotedBy b q now).inFlight = r.inFlight ∧ (r.promotedBy b q now).transaction = r.transaction ∧
      (r.promotedBy b q now).renewDeadline = r.renewDeadline := by
  unfold Assoc.promotedBy Assoc.promote Assoc.accepted
  cases b <;> simp [Assoc.setBank, otherBank]

/-- R16: an item leaves the promoted bank, which is not RETIRING. -/
theorem Assoc.promotedBy_release (r : Assoc) (b : BankId) (q : W32) (now : Nat) :
    ((r.promotedBy b q now).bank b).release =
      { (r.promotedBy b q now).bank b with inUse := (r.bank b).inUse - 1 } := by
  obtain ⟨h, w, e⟩ := (r.bank b).mark_frame q
  rw [Assoc.promotedBy_bank, e]
  rfl

/-- R112: the evaluation of the promoted record and the leaving of the item do not meet. -/
theorem Assoc.evaluated_release (r : Assoc) (b : BankId) (n m now : Nat) :
    { (r.evaluated now).setBank b { r.bank b with inUse := n } with inFlight := m } =
      ({ r.setBank b { r.bank b with inUse := n } with inFlight := m } : Assoc).evaluated now := by
  have hd : ({ r.setBank b { r.bank b with inUse := n } with inFlight := m } : Assoc).isDue = r.isDue := by
    rw [Assoc.isDue, Assoc.dueReasons_bound, Assoc.isDue]
  unfold Assoc.evaluated
  rw [hd]
  cases b <;> rfl

/-- R53 to R57, R107: an accepted frame under a FRESH bank: the promotion, what it sends, and the delivery. -/
theorem State.completeInbound_promoted {s : State} {i : InItem} {R D : Assoc} (p : List Byte)
    (hl : (s.assoc i.assoc).state = .live) (ha : ((s.assoc i.assoc).bank i.bank).accepts i.sequence = true)
    (hf : ((s.assoc i.assoc).bank i.bank).state = .fresh)
    (hR : (s.assoc i.assoc).promotedBy i.bank i.sequence s.now = R)
    (hD : { R.setBank i.bank { R.bank i.bank with inUse := ((s.assoc i.assoc).bank i.bank).inUse - 1 } with
      inFlight := (s.assoc i.assoc).inFlight - 1 } = D) :
    s.completeInbound i p i.tag =
      ((s.engineIdle.queued (R.requests i.assoc s.controlRoom)).deliver i p).setAssoc i.assoc (D.evaluated s.now) := by
  subst hR hD
  obtain ⟨hstate, -, hflight, -, -⟩ := (s.assoc i.assoc).promotedBy_frame i.bank i.sequence s.now
  have hgen : (((s.assoc i.assoc).promotedBy i.bank i.sequence s.now).bank i.bank).generation =
      ((s.assoc i.assoc).bank i.bank).generation := by
    obtain ⟨h, w, e⟩ := ((s.assoc i.assoc).bank i.bank).mark_frame i.sequence
    rw [Assoc.promotedBy_bank, e]
    rfl
  rw [State.completeInbound_eq, if_neg (not_not.2 rfl), if_neg (not_not.2 hl), if_pos ha,
    State.acceptInbound_fresh (s := s.engineIdle) hf]
  refine (State.delivered_released (s := s.engineIdle.queued _) (i := i) p
    (r := ((s.assoc i.assoc).promotedBy i.bank i.sequence s.now).evaluated s.now) (hstate.trans hl)
    (by rw [Assoc.evaluated_bank]; exact hgen)).trans ?_
  rw [Assoc.evaluated_bank, Assoc.promotedBy_release, Assoc.evaluated_release,
    show (((s.assoc i.assoc).promotedBy i.bank i.sequence s.now).evaluated s.now).inFlight = _ from hflight]
  rfl

/-- R107, R113: the RENEW_REQUEST of a promotion is that of the record as the item leaves it. -/
theorem Assoc.promotedBy_requests {r D : Assoc} {b : BankId} {q : W32} {now n m : Nat} (a : AssocId) {room : Bool}
    (hD : { (r.promotedBy b q now).setBank b { (r.promotedBy b q now).bank b with inUse := n } with inFlight := m } = D) :
    (D.isDue = false ∨ r.renewDeadline.isSome = true ∨ room = false →
      (r.promotedBy b q now).requests a room = []) ∧
    (D.isDue = true → r.renewDeadline = none → room = true →
      (r.promotedBy b q now).requests a room =
        [{ assoc := 0, plaintext := renewRequestOctets a (D.evaluated now) (D.bank b), restartMark := false,
           setsMark := false }]) := by
  have hd : D.dueReasons = (r.promotedBy b q now).dueReasons := by rw [← hD, Assoc.dueReasons_bound]
  have hdue : D.isDue = (r.promotedBy b q now).isDue := by rw [Assoc.isDue, hd, Assoc.isDue]
  have ht : (r.promotedBy b q now).renewDeadline = r.renewDeadline := by cases b <;> rfl
  rw [hdue, ← ht]
  refine ⟨Assoc.requests_silent a, fun h1 h2 h3 => ?_⟩
  rw [Assoc.requests, if_pos ⟨h1, h2, h3⟩, Assoc.promotedBy_activeBank]
  have he : (D.evaluated now).dueReasons = D.dueReasons := rfl
  have ho : renewRequestOctets a (r.promotedBy b q now) ((r.promotedBy b q now).bank b) =
      renewRequestOctets a (D.evaluated now) (D.bank b) := by
    refine renewRequestOctets_congr ?_ (by rw [he, hd]) ?_ ?_ ?_ ?_ <;> rw [← hD] <;> cases b <;> rfl
  rw [← ho]
  rfl

@[simp] theorem Assoc.setBank_renewDeadline (r : Assoc) (b : BankId) (k : Bank) :
    (r.setBank b k).renewDeadline = r.renewDeadline := by cases b <;> rfl

@[simp] theorem Assoc.setBank_policy (r : Assoc) (b : BankId) (k : Bank) : (r.setBank b k).policy = r.policy := by
  cases b <;> rfl

/-- R35: the delivery of a traffic frame changes the Shop Port and its count alone. -/
theorem State.deliver_frame (s : State) {i : InItem} (p : List Byte) (h : i.assoc ≠ 0) :
    ∃ q n, s.deliver i p = { s with shop := q, stationCounters := n } := by
  by_cases hd : s.shop.delivery.length < 16
  · exact ⟨_, _, s.deliver_shop p h hd⟩
  · exact ⟨_, _, s.deliver_shopFull p h (Nat.not_lt.1 hd)⟩

/-- R14: the drained bank, once the ACTIVE one. -/
theorem Assoc.promotedBy_other {r : Assoc} {b : BankId} (q : W32) (now : Nat)
    (h : (r.bank (otherBank b)).state = .active) :
    (r.promotedBy b q now).bank (otherBank b) =
      { r.bank (otherBank b) with state := .draining, drainDeadline := some (now + r.policy.drainPeriod.toNat) } := by
  have hd : (r.promotedBy b q now).bank (otherBank b) =
      (r.bank (otherBank b)).startDrain (now + r.policy.drainPeriod.toNat) := by cases b <;> rfl
  exact hd.trans (if_pos h)

/-- R14, R21: the selector, the monitor-renewal flag and QUIET after a promotion. -/
theorem Assoc.promotedBy_marks (r : Assoc) (b : BankId) (q : W32) (now : Nat) :
    (r.promotedBy b q now).selector = b ∧ (r.promotedBy b q now).monitorRenewal = false ∧
      (r.promotedBy b q now).quiet = 0 := by
  unfold Assoc.promotedBy Assoc.promote Assoc.accepted
  cases b <;> simp [Assoc.setBank, otherBank]

/-- Settles O39: the promotion at the acceptance, and the completion by what the promotion sends. -/
theorem acceptedFrameUnderAFreshBankPromotesIt : Obligations.AcceptedFrameUnderAFreshBankPromotesIt := by
  unfold Obligations.AcceptedFrameUnderAFreshBankPromotesIt
  refine ⟨?acceptance, ?completion⟩
  case acceptance =>
    intro s i hs hl hf ha r t
    have ho : (r.bank (otherBank i.bank)).state = .active := hs.other_active hl hf
    have ht : t = (r.promotedBy i.bank i.sequence s.now).evaluated s.now := by
      simp only [t, State.acceptInbound_fresh hf, State.assoc_setAssoc, if_true]
      rfl
    obtain ⟨hstate, hpolicy, hflight, htrans, -⟩ := r.promotedBy_frame i.bank i.sequence s.now
    have hnew : t.bank i.bank = ((r.bank i.bank).mark i.sequence).activate := by
      rw [ht, Assoc.evaluated_bank, Assoc.promotedBy_bank]
    have hold : t.bank (otherBank i.bank) =
        { r.bank (otherBank i.bank) with
          state := .draining, drainDeadline := some (s.now + r.policy.drainPeriod.toNat) } := by
      rw [ht, Assoc.evaluated_bank, Assoc.promotedBy_other i.sequence s.now ho]
    obtain ⟨hsel, hmon, hquiet⟩ := r.promotedBy_marks i.bank i.sequence s.now
    rw [hnew, hold, ht]
    exact ⟨rfl, rfl, rfl, Bank.mark_accepts ha, Bank.mark_wear _ _, rfl, rfl, rfl, rfl, hsel, hmon, hquiet, hstate.trans hl,
      hpolicy, hflight, htrans⟩
  case completion =>
    intro s i p g hr hc hs hl hf ha hg settled r k old drained fresh decided promoted silent next carried
    subst hg
    have hD := Assoc.promotedBy_bound i.sequence s.now (k.inUse - 1) (r.inFlight - 1) (hs.other_active hl hf)
    obtain ⟨hsilent, hsends⟩ := Assoc.promotedBy_requests (D := decided) (room := s.controlRoom) i.assoc hD
    have hpromoted : decided.evaluated s.now = promoted := by
      have ht : decided.renewDeadline = r.renewDeadline := by simp only [decided, Assoc.setBank_renewDeadline]
      have hp : decided.policy = r.policy := by simp only [decided, Assoc.setBank_policy]
      simp only [Assoc.evaluated, promoted, ht, hp]
      rfl
    rw [exec_inboundCompletion hr hc, State.completeInbound_promoted (D := decided) p hl ha hf rfl hD, hpromoted]
    have quiet (h : silent) : (r.promotedBy i.bank i.sequence s.now).requests i.assoc s.controlRoom = [] := by
      refine hsilent ?_
      rcases h with h | h | h | h
      · exact .inl h
      · exact .inr (.inl h)
      · exact .inr (.inr (by simp [State.controlRoom, Nat.not_lt.2 h]))
      · exact .inr (.inr (by simp [State.controlRoom, Nat.not_lt.2 h]))
    refine ⟨fun ⟨hin, hun, hout, hbox⟩ hq => ?_, fun hq h0 c h => ?_, fun ⟨hin, hun, hout, hbox⟩ h0 hdue htimer ho hm hroom => ?_⟩
    · rw [quiet hq, State.queued_nil]
      refine ⟨fun h0 hd => ?_, fun h0 hd => ?_, fun h0 hm hd => ?_, fun h0 _ hd => ?_⟩
      · rw [State.deliver_shop (s := s.engineIdle) p h0 hd]
        exact State.Settled.outcome ⟨hin, hun, hout, hbox⟩ rfl
      · rw [State.deliver_shopFull (s := s.engineIdle) p h0 hd]
        exact State.Settled.outcome ⟨hin, hun, hout, hbox⟩ rfl
      · rw [State.deliver_inbox p h0, State.joinInbox, if_pos (show s.engineIdle.management.inbox.length < 4 from hd)]
        exact State.Settled.outcome ⟨hin, hun, hout, .inr hm⟩ rfl
      · rw [State.deliver_inbox p h0, State.joinInbox,
          if_neg (show ¬s.engineIdle.management.inbox.length < 4 from Nat.not_lt.2 hd)]
        exact State.Settled.outcome ⟨hin, hun, hout, hbox⟩ rfl
    · rw [quiet hq, State.queued_nil, State.deliver_inbox p h0]
      have live : promoted.state = .live := by
        show decided.state = .live
        simp only [decided, Assoc.setBank_state]
        exact hl
      exact (exec_carried (s := s.engineIdle) h h0 hr live).symm
    · have hc : s.controlRoom = true := by simp [State.controlRoom, ho, hroom]
      rw [hsends hdue htimer hc]
      let item : OutItem :=
        { assoc := 0, plaintext := renewRequestOctets i.assoc promoted fresh, restartMark := false, setsMark := false }
      have hfresh : decided.bank i.bank = fresh :=
        Assoc.bank_setBank_same (r.setBank (otherBank i.bank) drained) i.bank fresh
      rw [hpromoted, hfresh]
      let u : State := ((s.engineIdle.queued [item]).deliver i p).setAssoc i.assoc promoted
      obtain ⟨q, n, hq⟩ := (s.engineIdle.queued [item]).deliver_frame p h0
      have hqueue : u.engine.outbound = [item] := by
        simp only [u, hq]
        show s.engine.outbound ++ [item] = _
        rw [ho]
        rfl
      have hin' : u.engine.inbound = [] := by simp only [u, hq]; exact hin
      have hun' : u.engine.unwrap = [] := by simp only [u, hq]; exact hun
      have hbox' : u.management.inbox = [] := by simp only [u, hq]; exact hm
      have frame : u.OnlyManagement u.settle :=
        .settle hin' hun' hbox' (fun j hj => by rw [hqueue, List.mem_singleton] at hj; rw [hj])
      have h0' : u.assoc 0 = s.assoc 0 := by
        simp only [u, hq]
        rw [State.assoc_setAssoc, if_neg (Ne.symm h0)]
        rfl
      refine ⟨u.settle, rfl, ?_, fun hd => ?_, fun hd => ⟨?_, ?_⟩, fun hs0 hl0 hd0 b hb hn hw => ?_⟩
      · rw [frame.records _ h0]
        simp only [u, State.assoc_setAssoc, if_true]
      · rw [frame.shop]
        simp only [u, State.deliver_shop (s := s.engineIdle.queued [item]) p h0 hd]
        rfl
      · rw [frame.shop]
        simp only [u, State.deliver_shopFull (s := s.engineIdle.queued [item]) p h0 hd]
        rfl
      · rw [frame.counts _ (by simp)]
        simp only [u, State.deliver_shopFull (s := s.engineIdle.queued [item]) p h0 hd]
        exact (State.stationCount_countStation _ _ _).trans (if_pos rfl)
      · have hlen : frameCost item.plaintext.length = 6 := by
          simp only [item, length_renewRequestOctets]
          decide
        have hcur := State.settle_sends (s := u) (b := b) (by simp only [u, hq]; rfl) hin' hun' hbox' hqueue rfl
          (by simp only [u, hq]; exact hroom) (by rwa [h0']) (by rwa [h0']) (by rw [h0', hd0]; simp) (by rwa [h0'])
          (by rwa [h0']) (by rwa [h0', hlen])
        rw [hcur, h0', show u.identity = s.identity by simp only [u, hq]; rfl]

end Sys2Proof.Machine
end

section
/-! The unwrap completion (R48, R59, R99, R104, R105). -/

namespace Sys2Proof.Machine

/-! ## The record of a target (R104, R105) -/

/-- R104: a failed wrap check is BAD_VALUE. -/
theorem unwrapOutcome_failed (r : Assoc) : unwrapOutcome r false = .badValue := rfl

/-- R104: the outcomes of a wrap check that passes. -/
theorem unwrapOutcome_passed (r : Assoc) : unwrapOutcome r true =
    if r.state = .closing then .refused else if r.otherBankBusy then .busy else .done := by
  simp [unwrapOutcome]

/-- R105: the record of a target, its key installed where the outcome is DONE. -/
def Assoc.unwrapped (r : Assoc) (g : W16) (key : Key) (passes : Bool) : Assoc :=
  if unwrapOutcome r passes = .done then r.install g key else r

/-- R104: a failed check installs no key, and neither does one of a CLOSING target. -/
theorem Assoc.unwrapped_same {r : Assoc} {passes : Bool} (g : W16) (key : Key)
    (h : passes = false ∨ r.state = .closing ∨ r.otherBankBusy = true) : r.unwrapped g key passes = r := by
  refine if_neg ?_
  cases passes with
  | false => simp [unwrapOutcome_failed]
  | true =>
    rw [unwrapOutcome_passed]
    rcases h with h | h | h
    · cases h
    · simp [h]
    · rw [h]
      split <;> simp

/-- R105: an installation leaves all but the banks, the state, the selector and the monitor-renewal flag. -/
theorem Assoc.install_frame (r : Assoc) (g : W16) (key : Key) :
    (r.install g key).direction = r.direction ∧ (r.install g key).trafficClass = r.trafficClass ∧
      (r.install g key).policy = r.policy ∧ (r.install g key).inFlight = r.inFlight ∧
      (r.install g key).transaction = r.transaction ∧ (r.install g key).counters = r.counters ∧
      (r.install g key).quiet = r.quiet := by
  unfold Assoc.install
  split <;> cases r.spareBank <;> simp [Assoc.setBank]

theorem Assoc.unwrapped_frame (r : Assoc) (g : W16) (key : Key) (passes : Bool) :
    (r.unwrapped g key passes).direction = r.direction ∧ (r.unwrapped g key passes).trafficClass = r.trafficClass ∧
      (r.unwrapped g key passes).policy = r.policy ∧ (r.unwrapped g key passes).inFlight = r.inFlight ∧
      (r.unwrapped g key passes).transaction = r.transaction ∧ (r.unwrapped g key passes).counters = r.counters ∧
      (r.unwrapped g key passes).quiet = r.quiet := by
  unfold Assoc.unwrapped
  split
  · exact r.install_frame g key
  · exact ⟨rfl, rfl, rfl, rfl, rfl, rfl, rfl⟩

/-- Law 1: a bank is the ACTIVE one where the other is not. -/
theorem Assoc.activeBank_of_other {r : Assoc} {b : BankId} (h : (r.bank b).state = .active)
    (ho : (r.bank (otherBank b)).state ≠ .active) : r.activeBank = some b := by
  cases b with
  | bankA => exact if_pos h
  | bankB => exact (if_neg ho).trans (if_pos h)

/-- R101, R104: the other bank's state where `b` is the ACTIVE one. -/
theorem Assoc.otherBankBusy_of_active {r : Assoc} {b : BankId} (h : r.activeBank = some b) :
    r.otherBankBusy = true ↔ (r.bank (otherBank b)).state = .draining ∨ (r.bank (otherBank b)).state = .retiring := by
  simp [Assoc.otherBankBusy, h]

/-- R105: a key joins the bank that is not ACTIVE. -/
theorem Assoc.install_fresh {r : Assoc} {b : BankId} (g : W16) (key : Key) (hs : r.state = .live ∨ r.state = .suspended)
    (h : (r.bank b).state = .active) (ho : (r.bank (otherBank b)).state ≠ .active) :
    r.install g key = r.setBank (otherBank b) (installedBank .fresh g key) := by
  have hb : r.spareBank = otherBank b := by
    cases b with
    | bankA => exact if_pos h
    | bankB => exact if_neg ho
  rw [Assoc.install, ← hb]
  rcases hs with hs | hs <;> rw [hs]

/-- R105: the first key of a PENDING association. -/
theorem Assoc.unwrapped_pending {r : Assoc} (g : W16) (key : Key) (hs : r.state = .pending)
    (h : ∀ b, (r.bank b).state ≠ .active) :
    unwrapOutcome r true = .done ∧ r.unwrapped g key true =
      { r with bankA := installedBank .active g key, selector := .bankA, state := .live, monitorRenewal := false } := by
  have ho : unwrapOutcome r true = .done := by
    simp [unwrapOutcome_passed, hs, Assoc.otherBankBusy, Assoc.activeBank_eq_none.2 h]
  refine ⟨ho, ?_⟩
  rw [Assoc.unwrapped, if_pos ho, Assoc.install, hs]

/-- R104, R105: a keyed target whose other bank is DRAINING or RETIRING is BUSY; any other takes the key. -/
theorem Assoc.unwrapped_keyed {r : Assoc} {b : BankId} (g : W16) (key : Key)
    (hs : r.state = .live ∨ r.state = .suspended) (h : (r.bank b).state = .active) :
    ((r.bank (otherBank b)).state = .draining ∨ (r.bank (otherBank b)).state = .retiring →
      unwrapOutcome r true = .busy ∧ r.unwrapped g key true = r) ∧
    ((r.bank (otherBank b)).state = .empty ∨ (r.bank (otherBank b)).state = .fresh →
      unwrapOutcome r true = .done ∧
        r.unwrapped g key true = r.setBank (otherBank b) (installedBank .fresh g key)) := by
  have hc : r.state ≠ .closing := by rcases hs with hs | hs <;> simp [hs]
  refine ⟨fun ho => ?_, fun ho => ?_⟩
  · have ha := Assoc.activeBank_of_other h (by rcases ho with ho | ho <;> simp [ho])
    have hb := (Assoc.otherBankBusy_of_active ha).2 ho
    exact ⟨by simp [unwrapOutcome_passed, hc, hb], Assoc.unwrapped_same g key (.inr (.inr hb))⟩
  · have hn : (r.bank (otherBank b)).state ≠ .active := by rcases ho with ho | ho <;> simp [ho]
    have hb : ¬r.otherBankBusy = true := by
      rw [Assoc.otherBankBusy_of_active (Assoc.activeBank_of_other h hn)]
      rcases ho with ho | ho <;> simp [ho]
    have hd : unwrapOutcome r true = .done := by simp [unwrapOutcome_passed, hc, hb]
    exact ⟨hd, by rw [Assoc.unwrapped, if_pos hd, Assoc.install_fresh g key hs h hn]⟩

/-! ## The completion (R59, R104) -/

/-- R104: a wrap check that passes. -/
theorem State.finishOffer_passed {s : State} {i : UnwrapItem} {tr : Transaction} (key : Key)
    (ht : (s.assoc i.target).transaction = some tr) :
    s.finishOffer i key true =
      (s.setAssoc i.target ((s.assoc i.target).unwrapped i.generation key true)).transactionEnded i.target tr
        (unwrapOutcome (s.assoc i.target) true).code := by
  have other (c : Completion) (hc : c ≠ .done) (h : unwrapOutcome (s.assoc i.target) true = c) :
      s.endTransaction i.target c =
        (s.setAssoc i.target ((s.assoc i.target).unwrapped i.generation key true)).transactionEnded i.target tr c.code := by
    rw [Assoc.unwrapped, if_neg (by rwa [h]), State.setAssoc_self, State.endTransaction_eq c ht]
  unfold State.finishOffer
  have hcases := unwrapOutcome_passed (s.assoc i.target)
  split at hcases
  · rw [hcases]; exact other _ (by simp) hcases
  · split at hcases
    · rw [hcases]; exact other _ (by simp) hcases
    · rw [hcases]
      have hinstalled : ((s.modAssoc i.target (fun r => r.install i.generation key)).assoc i.target).transaction = some tr := by
        rw [State.assoc_modAssoc_same, ← ht]
        exact ((s.assoc i.target).install_frame i.generation key).2.2.2.2.1
      rw [Assoc.unwrapped, if_pos hcases]
      exact State.endTransaction_eq .done hinstalled

/-- R104: a wrap check that fails. -/
theorem State.finishOffer_failed {s : State} {i : UnwrapItem} {tr : Transaction} (key : Key)
    (ht : (s.assoc i.target).transaction = some tr) :
    s.finishOffer i key false =
      if Config.firstOrder s.free then (s.spendChoice.wrapReject i.target).transactionEnded i.target tr 3
      else (s.spendChoice.transactionEnded i.target tr 3).wrapReject i.target := by
  have hrejected : ((s.spendChoice.wrapReject i.target).assoc i.target).transaction = some tr := by
    rw [State.wrapReject, State.handReport_assoc]
    exact ht
  unfold State.finishOffer
  rw [unwrapOutcome_failed]
  simp only [State.choice, State.endTransaction_eq .badValue hrejected,
    State.endTransaction_eq (s := s.spendChoice) .badValue ht]
  rfl

/-- R3, R6, R99: the record after the end of its transaction. -/
def Assoc.ended (r : Assoc) : Assoc := { r with transaction := none }.landed

/-- R100: the answer of a transaction's end. -/
def Transaction.answer (tr : Transaction) (code : Byte) : OutItem :=
  { assoc := 0, restartMark := false, setsMark := false
    plaintext := [0xA0, tr.tag, 0, 4, code, BitVec.ofNat 8 tr.target.val, 0] ++ word 2 tr.generation }

/-- R99, R100, R113: the end of a transaction: the answer offered, then the record evaluated. -/
theorem State.transactionEnded_eq (s : State) (a : AssocId) (tr : Transaction) (code : Byte) :
    let t := if s.controlRoom = true then s.queued [tr.answer code] else s.countStation .responseDrop
    s.transactionEnded a tr code =
      (t.queued ((s.assoc a).ended.requests a t.controlRoom)).setAssoc a ((s.assoc a).ended.evaluated s.now) := by
  have hroom : s.controlRoom = true ↔ s.engine.outbound.length < 16 ∧ s.sendQueue.taken < 32 := by
    simp [State.controlRoom]
  intro t
  have hnow : t.now = s.now := by
    simp only [t]
    split <;> rfl
  have ht : s.transactionEnded a tr code = t.renewalEvaluated a (s.assoc a).ended := by
    simp only [State.transactionEnded, ← Assoc.landed_eq, t, hroom]
    rfl
  rw [ht, ← State.evaluateDue_setAssoc, State.evaluateDue_stored, hnow]

/-- R115: what renewal-due sends is of association 0. -/
theorem Assoc.requests_assoc (r : Assoc) (a : AssocId) (room : Bool) : ∀ i ∈ r.requests a room, i.assoc = 0 := by
  unfold Assoc.requests
  split
  · split <;> simp [renewalItem]
  · simp

/-- R99, R100, R113: the end of a transaction: the record, the items it offers, and the count of an answer without room. -/
theorem State.transactionEnded_offers (s : State) (a : AssocId) (tr : Transaction) (code : Byte) : ∃ l n,
    s.transactionEnded a tr code =
      { s with
        assocs := s.assocs.set a ((s.assoc a).ended.evaluated s.now), stationCounters := n
        engine := { s.engine with outbound := s.engine.outbound ++ l } } ∧
      (∀ i ∈ l, i.assoc = 0) ∧ (s.controlRoom = true → ∃ l', l = tr.answer code :: l') ∧
      (n = s.stationCounters ∨ n = (s.countStation .responseDrop).stationCounters) := by
  rw [State.transactionEnded_eq]
  split
  · refine ⟨tr.answer code :: (s.assoc a).ended.requests a (s.queued [tr.answer code]).controlRoom, s.stationCounters, ?_, ?_,
      fun _ => ⟨_, rfl⟩, .inl rfl⟩
    · simp only [State.queued, State.modEngine, List.append_assoc, List.singleton_append]
      rfl
    · intro i hi
      rcases List.mem_cons.1 hi with rfl | hi
      · rfl
      · exact Assoc.requests_assoc _ _ _ i hi
  · rename_i h
    exact ⟨_, _, rfl, Assoc.requests_assoc _ _ _, fun e => absurd e h, .inr rfl⟩

/-! ## What a completion offers -/

/-- What stays while items of association 0 join the Outbound Work Queue. -/
structure State.Offering (s t : State) : Prop where
  current : t.engine.current = s.engine.current
  inbound : t.engine.inbound = s.engine.inbound
  unwrap : t.engine.unwrap = s.engine.unwrap
  outbound : ∃ l, t.engine.outbound = s.engine.outbound ++ l
  management : (∀ i ∈ s.engine.outbound, i.assoc = 0) → ∀ i ∈ t.engine.outbound, i.assoc = 0
  inbox : t.management.inbox = s.management.inbox
  sendQueue : t.sendQueue = s.sendQueue
  identity : t.identity = s.identity

theorem State.Offering.trans {s t u : State} (h : s.Offering t) (k : t.Offering u) : s.Offering u := by
  obtain ⟨l, hl⟩ := h.outbound
  obtain ⟨m, hm⟩ := k.outbound
  exact ⟨k.current.trans h.current, k.inbound.trans h.inbound, k.unwrap.trans h.unwrap,
    ⟨l ++ m, by rw [hm, hl, List.append_assoc]⟩, fun ho => k.management (h.management ho), k.inbox.trans h.inbox,
    k.sendQueue.trans h.sendQueue, k.identity.trans h.identity⟩

/-- A change of other parts of the state. -/
theorem State.Offering.of_frame {s t : State} (he : t.engine = s.engine) (hm : t.management = s.management)
    (hq : t.sendQueue = s.sendQueue) (hi : t.identity = s.identity) : s.Offering t := by
  refine ⟨?_, ?_, ?_, ⟨[], ?_⟩, fun ho => ?_, ?_, hq, hi⟩ <;> simp_all

theorem State.Offering.setAssoc (s : State) (a : AssocId) (r : Assoc) : s.Offering (s.setAssoc a r) :=
  .of_frame rfl rfl rfl rfl

theorem State.Offering.handReport (s : State) (p : Report) : s.Offering (s.handReport p) := by
  have hm := (State.OnlyManagement.handReport s p).outbound
  obtain ⟨q, l, c, e⟩ := s.handReport_frame p
  rw [e] at hm ⊢
  exact ⟨rfl, rfl, rfl, ⟨l, rfl⟩, hm, rfl, rfl, rfl⟩

theorem State.Offering.transactionEnded (s : State) (a : AssocId) (tr : Transaction) (code : Byte) :
    s.Offering (s.transactionEnded a tr code) := by
  obtain ⟨l, n, e, hl, -, -⟩ := s.transactionEnded_offers a tr code
  rw [e]
  exact ⟨rfl, rfl, rfl, ⟨l, rfl⟩, fun ho i hi => (List.mem_append.1 hi).elim (ho i) (hl i), rfl, rfl, rfl⟩

theorem State.Offering.wrapReject (s : State) (a : AssocId) : s.Offering (s.wrapReject a) :=
  (State.Offering.of_frame (s := s) (t := s.countStation .wrapReject) rfl rfl rfl rfl).trans (.handReport _ _)

/-- R59, R104: an unwrap completion. -/
theorem State.Offering.completeUnwrap {s : State} {i : UnwrapItem} {tr : Transaction} (key : Key) (passes : Bool)
    (ht : (s.assoc i.target).transaction = some tr) : s.engineIdle.Offering (s.completeUnwrap i key passes) := by
  have finished : s.engineIdle.Offering (s.engineIdle.finishOffer i key passes) := by
    have spent : s.engineIdle.Offering s.engineIdle.spendChoice := .of_frame rfl rfl rfl rfl
    cases passes with
    | true =>
      rw [State.finishOffer_passed (s := s.engineIdle) key ht]
      exact (State.Offering.setAssoc _ _ _).trans (.transactionEnded _ _ _ _)
    | false =>
      rw [State.finishOffer_failed (s := s.engineIdle) key ht]
      split
      · exact (spent.trans (.wrapReject _ _)).trans (.transactionEnded _ _ _ _)
      · exact (spent.trans (.transactionEnded _ _ _ _)).trans (.wrapReject _ _)
  exact finished.trans (.of_frame rfl rfl rfl rfl)

/-! ## The record, the count and the answer -/

theorem State.transactionEnded_assoc (s : State) (a c : AssocId) (tr : Transaction) (code : Byte) :
    (s.transactionEnded a tr code).assoc c = if c = a then (s.assoc a).ended.evaluated s.now else s.assoc c := by
  obtain ⟨l, n, e, -⟩ := s.transactionEnded_offers a tr code
  rw [e]
  exact State.assoc_setAssoc s a c _

@[simp] theorem State.wrapReject_assoc (s : State) (a c : AssocId) : (s.wrapReject a).assoc c = s.assoc c :=
  State.handReport_assoc _ _ _

/-- R99, R104: the target's record after the completion. -/
theorem State.completeUnwrap_record {s : State} {i : UnwrapItem} {tr : Transaction} (key : Key) (passes : Bool)
    (ha : i.target ≠ 0) (ht : (s.assoc i.target).transaction = some tr) :
    (s.completeUnwrap i key passes).assoc i.target =
      ((s.assoc i.target).unwrapped i.generation key passes).ended.evaluated s.now := by
  rw [State.completeUnwrap, State.modBank, State.assoc_modAssoc_ne _ _ ha]
  cases passes with
  | true =>
    rw [State.finishOffer_passed (s := s.engineIdle) key ht, State.transactionEnded_assoc, if_pos rfl, State.assoc_setAssoc,
      if_pos rfl]
    rfl
  | false =>
    rw [State.finishOffer_failed (s := s.engineIdle) key ht, Assoc.unwrapped_same _ _ (.inl rfl)]
    split
    · rw [State.transactionEnded_assoc, if_pos rfl, State.wrapReject_assoc, State.now, State.wrapReject]
      obtain ⟨q, l, c, e⟩ := (s.engineIdle.spendChoice.countStation .wrapReject).handReport_frame
        { kind := .wrapReject, severity := 3, source := .association i.target, value := none }
      rw [e]
      rfl
    · rw [State.wrapReject_assoc, State.transactionEnded_assoc, if_pos rfl]
      rfl

/-- R59: association 0's record after the completion of another target's offer. -/
theorem State.completeUnwrap_management {s : State} {i : UnwrapItem} {tr : Transaction} (key : Key) (passes : Bool)
    (ha : i.target ≠ 0) (ht : (s.assoc i.target).transaction = some tr) :
    (s.completeUnwrap i key passes).assoc 0 =
      (s.assoc 0).setBank i.bank ((s.assoc 0).bank i.bank).release := by
  have finished : (s.engineIdle.finishOffer i key passes).assoc 0 = s.assoc 0 := by
    cases passes with
    | true =>
      rw [State.finishOffer_passed (s := s.engineIdle) key ht, State.transactionEnded_assoc, if_neg (Ne.symm ha),
        State.assoc_setAssoc, if_neg (Ne.symm ha)]
      rfl
    | false =>
      rw [State.finishOffer_failed (s := s.engineIdle) key ht]
      split
      · rw [State.transactionEnded_assoc, if_neg (Ne.symm ha), State.wrapReject_assoc]
        rfl
      · rw [State.wrapReject_assoc, State.transactionEnded_assoc, if_neg (Ne.symm ha)]
        rfl
  rw [State.completeUnwrap, State.modBank, State.assoc_modAssoc_same, finished]

theorem State.wrapReject_count (s : State) (a : AssocId) :
    (s.wrapReject a).stationCount .wrapReject = satInc (s.stationCount .wrapReject) := by
  rw [State.wrapReject, (State.OnlyManagement.handReport _ _).counts _ (by simp), State.stationCount_countStation, if_pos rfl]

theorem State.transactionEnded_count (s : State) (a : AssocId) (tr : Transaction) (code : Byte) {c : StationCounter}
    (h : c ≠ .responseDrop) : (s.transactionEnded a tr code).stationCount c = s.stationCount c := by
  obtain ⟨l, n, e, -, -, hn⟩ := s.transactionEnded_offers a tr code
  rw [e]
  rcases hn with rfl | rfl
  · rfl
  · exact (s.stationCount_countStation .responseDrop c).trans (if_neg h)

/-- R104, R142: a failed check is counted. -/
theorem State.completeUnwrap_count {s : State} {i : UnwrapItem} {tr : Transaction} (key : Key)
    (ht : (s.assoc i.target).transaction = some tr) :
    (s.completeUnwrap i key false).stationCount .wrapReject = satInc (s.stationCount .wrapReject) := by
  have finished : (s.engineIdle.finishOffer i key false).stationCount .wrapReject = satInc (s.stationCount .wrapReject) := by
    rw [State.finishOffer_failed (s := s.engineIdle) key ht]
    split
    · rw [State.transactionEnded_count _ _ _ _ (by simp), State.wrapReject_count]
      rfl
    · rw [State.wrapReject_count, State.transactionEnded_count _ _ _ _ (by simp)]
      rfl
  exact finished

/-- R147: while the pacing timer runs a send attempt offers nothing. -/
theorem State.attemptSend_paced {s : State} (n : Nat) (h : s.reports.pacingDeadline.isSome = true) :
    (s.attemptSend n).engine = s.engine := by
  cases n with
  | zero => rfl
  | succ n =>
    unfold State.attemptSend
    split
    · rfl
    · rw [if_pos (.inr h)]
      rfl

/-- R147: while the pacing timer runs a report handed over sends nothing. -/
theorem State.handReport_paced {s : State} (p : Report) (h : s.reports.pacingDeadline.isSome = true) :
    (s.handReport p).engine = s.engine := by
  unfold State.handReport
  extract_lets now
  split
  · exact State.attemptSend_paced 5 h
  · split
    · exact State.attemptSend_paced 5 h
    · split
      · exact State.attemptSend_paced (s := s.countReportDrop.modReports _) 5 h
      · exact State.attemptSend_paced (s := s.countReportDrop) 5 h

/-- R100, R104: unless a report goes first, the answer is the first item offered. -/
theorem State.completeUnwrap_answers {s : State} {i : UnwrapItem} {tr : Transaction} (key : Key) {passes : Bool}
    (ht : (s.assoc i.target).transaction = some tr) (ho : s.engine.outbound = []) (hq : s.sendQueue.taken < 32)
    (h : passes = true ∨ Config.firstOrder s.free = false ∨ s.reports.pacingDeadline.isSome = true) :
    ∃ l, (s.completeUnwrap i key passes).engine.outbound =
      tr.answer (unwrapOutcome (s.assoc i.target) passes).code :: l := by
  have ends {t : State} (code : Byte) (hto : t.engine.outbound = []) (htq : t.sendQueue = s.sendQueue) :
      ∃ l, (t.transactionEnded i.target tr code).engine.outbound = tr.answer code :: l := by
    obtain ⟨l, n, e, -, hl, -⟩ := t.transactionEnded_offers i.target tr code
    obtain ⟨l', rfl⟩ := hl (by simp [State.controlRoom, hto, htq, hq])
    exact ⟨l', by rw [e]; simp [hto]⟩
  cases passes with
  | true =>
    obtain ⟨l, e⟩ := ends (t := s.engineIdle.setAssoc i.target ((s.assoc i.target).unwrapped i.generation key true))
      (unwrapOutcome (s.assoc i.target) true).code ho rfl
    exact ⟨l, by rw [State.completeUnwrap, State.finishOffer_passed (s := s.engineIdle) key ht]; exact e⟩
  | false =>
    have failed := State.finishOffer_failed (s := s.engineIdle) key ht
    split at failed
    · rename_i hfirst
      have hp : s.reports.pacingDeadline.isSome = true := by
        rcases h with h | h | h
        · cases h
        · cases h.symm.trans hfirst
        · exact h
      have hw : (s.engineIdle.spendChoice.wrapReject i.target).engine = s.engineIdle.engine :=
        State.handReport_paced (s := s.engineIdle.spendChoice.countStation .wrapReject) _ hp
      obtain ⟨l, e⟩ := ends (t := s.engineIdle.spendChoice.wrapReject i.target) 3 (by rw [hw]; exact ho)
        (State.Offering.wrapReject s.engineIdle.spendChoice i.target).sendQueue
      exact ⟨l, by rw [State.completeUnwrap, failed]; exact e⟩
    · obtain ⟨l, e⟩ := ends (t := s.engineIdle.spendChoice) 3 ho rfl
      obtain ⟨l', e'⟩ := (State.Offering.wrapReject (s.engineIdle.spendChoice.transactionEnded i.target tr 3) i.target).outbound
      refine ⟨l ++ l', ?_⟩
      rw [State.completeUnwrap, failed]
      exact e'.trans (by rw [e]; rfl)

end Sys2Proof.Machine
end

section
/-! The unwrap completion of an event: what it comes to, alone and with its answer taken into the engine. -/

namespace Sys2Proof.Machine

/-- R59: an unwrap completion of a running part. -/
theorem exec_unwrapCompletion {s : State} {i : UnwrapItem} {key : Key} {passes : Bool} (hr : s.power.running = true)
    (hc : s.engine.current = some (.unwrap i key passes)) :
    exec .unwrapCompletion s = .next (s.completeUnwrap i key passes).settle := by
  simp only [exec, execUnwrapCompletion, State.event, hr, Bool.and_self, if_true, State.unwrapDone, hc]

/-- R15, R16: an item's leaving a bank changes no more of an ACTIVE one than its in-use count. -/
theorem Assoc.release_active {r : Assoc} {b : BankId} (c : BankId) (h : (r.bank b).state = .active) :
    ∃ n, (r.setBank c (r.bank c).release).bank b = { r.bank b with inUse := n } := by
  by_cases hbc : b = c
  · subst hbc
    refine ⟨(r.bank b).inUse - 1, ?_⟩
    rw [Assoc.bank_setBank_same, Bank.release, if_neg (by simp [h])]
  · have hb : b = otherBank c := by revert hbc; cases b <;> cases c <;> decide
    exact ⟨(r.bank b).inUse, by rw [hb, Assoc.bank_setBank_other]⟩

/-- R3, R6, R99: the record of a target that becomes VACANT, and of one that does not. -/
theorem Assoc.ended_eq (r : Assoc) : r.ended =
    if r.state = .closing ∧ r.inFlight ≤ 1 then { r.vacated with inFlight := 0 }
    else { r with transaction := none, inFlight := r.inFlight - 1 } := by
  rw [Assoc.ended, Assoc.landed_eq]
  rfl

/-- Law 1: beside the ACTIVE bank there is no other. -/
theorem Assoc.BanksInOrder.other_not_active {r : Assoc} (h : r.BanksInOrder) {b : BankId} (hb : (r.bank b).state = .active) :
    (r.bank (otherBank b)).state ≠ .active := fun e => by
  cases b
  · cases (h.selectorA hb).symm.trans (h.selectorB e)
  · cases (h.selectorA e).symm.trans (h.selectorB hb)

theorem BankState.unused_of {st : BankState} (h : st ≠ .active) (ho : ¬(st = .draining ∨ st = .retiring)) :
    st = .empty ∨ st = .fresh := by
  cases st <;> simp_all

/-- Moves keep the laws of a record. -/
theorem Assoc.Sound.moves {a : AssocId} {r q : Assoc} (h : r.Sound) (m : Relation.ReflTransGen (Assoc.Move a) r q) :
    q.Sound := by
  induction m with
  | refl => exact h
  | tail _ m ih => exact m.sound ih

/-- R3, R6: a target that becomes VACANT is as after reset, and runs no timer. -/
theorem Assoc.ended_last {r : Assoc} (now : Nat) (h : r.state = .closing) (hf : r.inFlight ≤ 1) :
    r.ended.evaluated now = { r.vacated with inFlight := 0 } := by
  rw [Assoc.ended_eq, if_pos ⟨h, hf⟩]
  rfl

/-- R99, R113: any other target keeps all but its transaction, its count and its renew-request timer. -/
theorem Assoc.ended_running {r : Assoc} (now : Nat) (h : r.state ≠ .closing ∨ 1 < r.inFlight) :
    ∃ d, r.ended.evaluated now =
      { r with transaction := none, inFlight := r.inFlight - 1, renewDeadline := d } := by
  rw [Assoc.ended_eq, if_neg (by rintro ⟨hs, hf⟩; exact h.elim (· hs) (fun k => by omega))]
  exact ⟨_, rfl⟩

/-- R104, R105: an installation makes no target CLOSING. -/
theorem Assoc.unwrapped_closing (r : Assoc) (g : W16) (key : Key) (passes : Bool) :
    (r.unwrapped g key passes).state = .closing ↔ r.state = .closing := by
  unfold Assoc.unwrapped
  split
  · unfold Assoc.install
    split <;> rename_i h <;> simp [h]
  · rfl

/-- R105: a key changes the state and the selector of a PENDING target alone. -/
theorem Assoc.unwrapped_state {r : Assoc} (g : W16) (key : Key) {passes : Bool} (h : r.state ≠ .pending ∨ passes = false) :
    (r.unwrapped g key passes).state = r.state ∧ (r.unwrapped g key passes).selector = r.selector := by
  by_cases hp : passes = true
  · have hn : r.state ≠ .pending := h.resolve_right (by simp [hp])
    unfold Assoc.unwrapped
    split
    · unfold Assoc.install
      split
      · rename_i e
        exact absurd e hn
      all_goals cases r.spareBank <;> exact ⟨rfl, rfl⟩
    · exact ⟨rfl, rfl⟩
  · rw [Assoc.unwrapped_same g key (.inl (by simpa using hp))]
    exact ⟨rfl, rfl⟩

/-- Settles O40: the computation by its definition, the completion by its outcome, and the event by the settling of what it
offers. -/
theorem unwrapCompletionInstallsTheKey : Obligations.UnwrapCompletionInstallsTheKey := by
  unfold Obligations.UnwrapCompletionInstallsTheKey
  refine ⟨?computation, ?completion, ?event⟩
  case computation =>
    intro k i E sealing stream header first second last
    exact ⟨rfl, beq_iff_eq⟩
  case completion =>
    intro s i key tr ht r idle holding released reject spent
    have passed : s.completeUnwrap i key true =
        released ((holding (r.unwrapped i.generation key true)).transactionEnded i.target tr (unwrapOutcome r true).code) := by
      rw [State.completeUnwrap, State.finishOffer_passed (s := s.engineIdle) key ht]
      rfl
    have same : holding r = idle := idle.setAssoc_self i.target
    refine ⟨?_, fun hs => ?_, fun hs hb => ?_, fun hs b hb => ⟨fun ho => ?_, fun ho => ?_⟩, fun passes h hc hq => ?_⟩
    · rw [State.completeUnwrap, State.finishOffer_failed (s := s.engineIdle) key ht]
      rfl
    · rw [passed, Assoc.unwrapped_same _ _ (.inr (.inl hs)), same, unwrapOutcome_passed, if_pos hs]
      rfl
    · obtain ⟨hd, hx⟩ := Assoc.unwrapped_pending i.generation key hs hb
      rw [passed, hx, hd]
      rfl
    · obtain ⟨hd, hx⟩ := (Assoc.unwrapped_keyed i.generation key hs hb).1 ho
      rw [passed, hx, hd, same]
      rfl
    · obtain ⟨hd, hx⟩ := (Assoc.unwrapped_keyed i.generation key hs hb).2 ho
      rw [passed, hx, hd]
      rfl
    · have hf := State.Offering.completeUnwrap key passes ht
      rw [exec_unwrapCompletion h.running hc]
      exact State.Settled.outcome ⟨hf.inbound.trans h.inbound, hf.unwrap.trans h.unwrap, .inr (by rw [hf.sendQueue]; exact hq),
        .inl (hf.inbox.trans h.inbox)⟩ rfl
  case event =>
    intro s i key passes tr h hc ha hs ht
    let w := s.completeUnwrap i key passes
    have offers : s.engineIdle.Offering w := State.Offering.completeUnwrap key passes ht
    have hin : w.engine.inbound = [] := offers.inbound.trans h.inbound
    have hun : w.engine.unwrap = [] := offers.unwrap.trans h.unwrap
    have hbox : w.management.inbox = [] := offers.inbox.trans h.inbox
    have frame : w.OnlyManagement w.settle :=
      .settle hin hun hbox (offers.management (fun j hj => by
        rw [show s.engineIdle.engine.outbound = [] from h.outbound] at hj
        cases hj))
    refine ⟨w.settle, exec_unwrapCompletion h.running hc, ?_⟩
    intro r u
    let x := r.unwrapped i.generation key passes
    have hu : u = x.ended.evaluated s.now := (frame.records _ ha).trans (State.completeUnwrap_record key passes ha ht)
    obtain ⟨hdir, hclass, hpol, hflight, -, hcount, hquiet⟩ := r.unwrapped_frame i.generation key passes
    have last (hcl : r.state = .closing) (hf : r.inFlight ≤ 1) : u = { r.vacated with inFlight := 0 } := by
      rw [hu, show x = r from Assoc.unwrapped_same _ _ (.inr (.inl hcl)), Assoc.ended_last _ hcl hf]
    have running (hn : r.state ≠ .closing ∨ 1 < r.inFlight) :
        ∃ d, u = { x with transaction := none, inFlight := r.inFlight - 1, renewDeadline := d } := by
      rw [hu, ← hflight]
      exact Assoc.ended_running _ (by rwa [ne_eq, Assoc.unwrapped_closing, hflight])
    have keyed (hs' : r.state = .live ∨ r.state = .suspended) :
        ∃ d, u = { x with transaction := none, inFlight := r.inFlight - 1, renewDeadline := d } :=
      running (.inl (by rcases hs' with e | e <;> simp [e]))
    have common : u.transaction = none ∧ u.inFlight = r.inFlight - 1 ∧ u.policy = r.policy ∧ u.direction = r.direction ∧
        u.trafficClass = r.trafficClass := by
      by_cases hl : r.state = .closing ∧ r.inFlight ≤ 1
      · rw [last hl.1 hl.2]
        exact ⟨rfl, by have := hl.2; simp; omega, rfl, rfl, rfl⟩
      · obtain ⟨d, e⟩ := running (by rw [← Nat.not_le]; exact not_and_or.1 hl)
        rw [e]
        exact ⟨rfl, rfl, hpol, hdir, hclass⟩
    obtain ⟨h1, h2, h3, h4, h5⟩ := common
    have pending (hp : r.state = .pending) := Assoc.unwrapped_pending i.generation key hp (fun b => by
      obtain ⟨hA, hB⟩ := hs.unkeyed (.inr hp)
      cases b
      · exact fun e => by cases hA.symm.trans e
      · exact fun e => by cases hB.symm.trans e)
    refine ⟨h1, h2, h3, h4, h5, fun hcl hf => ?_, fun hn => ?_, fun hn hp => ?_, fun hp hs' => ?_,
      fun hp hs' b hb => ⟨fun ho => ?_, fun ho => ?_⟩, fun hn hp => ?_, fun hp => ?_, fun hp hq hs0 hl0 hd0 b hb hseq hw => ?_⟩
    · rw [last hcl hf]
      exact ⟨rfl, rfl, rfl, rfl, rfl, rfl, rfl, rfl⟩
    · obtain ⟨d, e⟩ := running hn
      rw [e]
      exact ⟨hcount, hquiet⟩
    · obtain ⟨d, e⟩ := running hn
      rw [e]
      exact Assoc.unwrapped_state i.generation key hp
    · obtain ⟨d, e⟩ := running (.inl (by simp [hs']))
      subst hp
      rw [e, show x = _ from (pending hs').2]
      exact ⟨rfl, rfl, rfl, rfl⟩
    · obtain ⟨d, e⟩ := keyed hs'
      subst hp
      rw [e, show x = _ from ((Assoc.unwrapped_keyed i.generation key hs' hb).2 ho).2]
      cases b <;> exact ⟨rfl, rfl⟩
    · obtain ⟨d, e⟩ := keyed hs'
      subst hp
      rw [e, show x = _ from ((Assoc.unwrapped_keyed i.generation key hs' hb).1 ho).2]
      exact ⟨rfl, rfl⟩
    · obtain ⟨d, e⟩ := running hn
      rw [e, show x = r from Assoc.unwrapped_same _ _ (hp.imp_right .inl)]
      exact ⟨rfl, rfl⟩
    · subst hp
      exact (frame.counts _ (by simp)).trans (State.completeUnwrap_count key ht)
    · refine ⟨(unwrapOutcome r passes).code, ?_, fun hp => ?_, fun hp hs' => ?_, fun hp hs' => ?_, fun hp hs' b' hb' => ?_⟩
      · obtain ⟨l, hl⟩ := State.completeUnwrap_answers key ht h.outbound hq hp
        have h0 : w.assoc 0 = (s.assoc 0).setBank i.bank ((s.assoc 0).bank i.bank).release :=
          State.completeUnwrap_management key passes ha ht
        obtain ⟨n, hk⟩ := Assoc.release_active i.bank hb
        rw [← h0] at hk
        have hsound : (w.assoc 0).Sound := hs0.moves ((State.evolves_completeUnwrap s i key passes).records 0)
        have hcost : frameCost (tr.answer (unwrapOutcome r passes).code).plaintext.length = 4 := by
          simp [Transaction.answer, frameCost, blockCount]
        have hcur := State.settle_sends (s := w) (b := b) offers.current hin hun hbox hl rfl (by rw [offers.sendQueue]; exact hq)
          hsound (by rw [h0, Assoc.setBank_state, hl0]) (by rw [h0]; cases i.bank <;> simp [Assoc.setBank, hd0])
          (by rw [hk]; exact hb) (by rw [hk]; exact hseq)
          (by rw [hk, hcost, h0, Assoc.setBank_policy]; exact hw)
        rw [hcur, hk, offers.identity]
        rfl
      · subst hp
        rfl
      · subst hp
        rw [unwrapOutcome_passed, if_pos hs']
        rfl
      · subst hp
        rw [(pending hs').1]
        rfl
      · subst hp
        have hne := hs.banks.other_not_active hb'
        split
        · rename_i ho
          rw [((Assoc.unwrapped_keyed i.generation key hs' hb').1 ho).1]
          rfl
        · rename_i ho
          have he : (r.bank (otherBank b')).state = .empty ∨ (r.bank (otherBank b')).state = .fresh :=
            BankState.unused_of hne ho
          rw [((Assoc.unwrapped_keyed i.generation key hs' hb').2 he).1]
          rfl

end Sys2Proof.Machine
end

section
/-! Control messages: their checks and ECHO (R158 to R161). -/

namespace Sys2Proof.Machine

/-! ## Answers (R160) -/

/-- R158, R160: an answer given at a taking. -/
theorem State.reply_eq (s : State) (m : ControlMessage) (c : Completion) (b : List Byte) :
    s.reply m c b = s.answeredWith (answerOctets (octetAt m.octets 0) (octetAt m.octets 1) c b) false :=
  s.offerAnswer_taking _ _ c b false

/-- R160: the octets of a rejection. -/
theorem rejection_octets (o : List Byte) (c : Completion) :
    answerOctets (octetAt o 0) (octetAt o 1) c (rejectionBody o) =
      if octetAt o 0 ∈ [(0x20 : Byte), 0x21, 0x22] then
        [octetAt o 0 + 0x80, octetAt o 1, 0, 4, c.code, octetAt o 4, 0, octetAt o 6, octetAt o 7]
      else [octetAt o 0 + 0x80, octetAt o 1, 0, 0, c.code] := by
  have hk : isKeyKind (octetAt o 0) = true ↔ octetAt o 0 ∈ [(0x20 : Byte), 0x21, 0x22] := by
    simp [isKeyKind, MessageKind.code, or_assoc]
  unfold rejectionBody
  simp only [hk]
  split
  · rw [keyAnswerBody, word_word16At, answerOctets_short _ _ _ _ (by simp)]
    rfl
  · exact answerOctets_nil _ _ _

/-- R159, R160: a message that fails a check. -/
theorem State.takeMessage_rejected {s : State} {m : ControlMessage} {c : Completion} (h : s.messageCheck m = .error c) :
    s.takeMessage m = s.answeredWith
      (if octetAt m.octets 0 ∈ [(0x20 : Byte), 0x21, 0x22] then
        [octetAt m.octets 0 + 0x80, octetAt m.octets 1, 0, 4, c.code, octetAt m.octets 4, 0, octetAt m.octets 6,
          octetAt m.octets 7]
      else [octetAt m.octets 0 + 0x80, octetAt m.octets 1, 0, 0, c.code]) false := by
  simp only [State.takeMessage, h, State.reject, State.reply_eq, rejection_octets]

theorem State.takeMessage_handled {s : State} {m : ControlMessage} {k : MessageKind} (h : s.messageCheck m = .ok k) :
    s.takeMessage m = s.handleMessage m k := by
  simp only [State.takeMessage, h]

/-- R158, R160: a command whose message is taken at once and answered at the taking. -/
theorem exec_answered {c : Instr} {m : ControlMessage} {s t : State} {o : List Byte} {rm : Bool} (hm : messageOf c = some m)
    (h : s.Listening) (e : s.takeMessage m = t.answeredWith o rm) (hk : t.engine.current = s.engine.current)
    (hi : t.management.inbox = s.management.inbox) : exec c s = .next (t.answeredWith o rm) :=
  (exec_message hm s).trans (State.event_answered h e hk hi)

/-- R9: a message that does not reach the part. -/
theorem exec_unheard {c : Instr} {s : State} (h : CarriesMessage c) (hl : (s.assoc 0).state ≠ .live) :
    exec c s = .next s := by
  obtain ⟨m, hm⟩ := Option.isSome_iff_exists.1 h
  rw [exec_message hm, State.messageEvent, State.event, State.hears, beq_false_of_ne hl]
  simp

/-! ## The checks (R159) -/

/-- R159 check 2: the kind a code names is the one of that code. -/
theorem MessageKind.code_of_ofCode {o : Byte} {k : MessageKind} (h : MessageKind.ofCode o = some k) : k.code = o :=
  beq_iff_eq.1 (List.find?_some (p := fun k : MessageKind => k.code == o) h)

/-- R159 check 2: the codes of the kinds. -/
theorem MessageKind.ofCode_isSome (o : Byte) : (MessageKind.ofCode o).isSome = true ↔
    o ∈ [(0x01 : Byte), 0x02, 0x03, 0x10, 0x11, 0x12, 0x20, 0x21, 0x22, 0x30, 0x31, 0x38, 0x3F] := by
  rw [MessageKind.ofCode, List.find?_isSome]
  constructor
  · rintro ⟨k, -, hk⟩
    rw [← beq_iff_eq.1 hk]
    cases k <;> decide
  · intro h
    obtain ⟨k, hk, rfl⟩ := List.mem_map.1 (show o ∈ messageKinds.map MessageKind.code from h)
    exact ⟨k, hk, beq_self_eq_true _⟩

theorem MessageKind.eq_echo {k : MessageKind} (h : k.code = 0x01) : k = .echo := by
  cases k <;> simp [MessageKind.code] at h ⊢

/-- R159 check 1. -/
theorem State.messageCheck_badLength {s : State} {m : ControlMessage}
    (h : m.octets.length < 4 ∨ 512 < m.octets.length ∨ (word16At m.octets 2).toNat ≠ m.octets.length - 4) :
    s.messageCheck m = .error .badLength := if_pos h

/-- R159 checks 2 to 4, in their order. -/
theorem State.messageCheck_eq {s : State} {m : ControlMessage}
    (h : ¬(m.octets.length < 4 ∨ 512 < m.octets.length ∨ (word16At m.octets 2).toNat ≠ m.octets.length - 4)) :
    s.messageCheck m =
      match MessageKind.ofCode (octetAt m.octets 0) with
      | none => .error .badKind
      | some k =>
        if s.management.restartTakenAt.isSome ∧ k ≠ .echo then .error .busy
        else if k.allowsLength (m.octets.length - 4) then .ok k
        else .error .badLength := (if_neg h).trans rfl

/-- R159 check 4: the lengths of the kinds' bodies. -/
theorem MessageKind.allowsLength_iff (k : MessageKind) (n : Nat) : k.allowsLength n = true ↔
    (k.code = 0x01 ∧ n ≤ 64) ∨ (k.code ∈ [(0x02 : Byte), 0x21, 0x22] ∧ n = 4) ∨ (k.code = 0x03 ∧ 4 ≤ n) ∨
      (k.code ∈ [(0x10 : Byte), 0x11, 0x12, 0x30, 0x38] ∧ n = 1) ∨ (k.code = 0x20 ∧ n = 44) ∨
      (k.code = 0x31 ∧ n ∈ [2, 4, 6, 8, 10, 12, 14, 16]) ∨ (k.code = 0x3F ∧ n = 0) := by
  have acks : (2 ≤ n ∧ n ≤ 16) ∧ n % 2 = 0 ↔ n ∈ [2, 4, 6, 8, 10, 12, 14, 16] := by
    simp only [List.mem_cons, List.not_mem_nil, or_false]
    omega
  cases k <;> simp [MessageKind.allowsLength, MessageKind.code, ← acks]

/-- Settles O41: each check by its test, the rejections by their octets. -/
theorem messagesAreCheckedAndEchoed : Obligations.MessagesAreCheckedAndEchoed := by
  unfold Obligations.MessagesAreCheckedAndEchoed
  refine ⟨fun c s h hl => exec_unheard h hl, ?echo, ?checks⟩
  case echo =>
    intro s via tag body h
    refine ⟨fun hb => ?_, fun hb => ?_⟩
    · refine exec_answered rfl h ?_ rfl rfl
      have hc : s.messageCheck (echoMessage via tag body) = .ok .echo := by
        rw [echoMessage, State.messageCheck_spelled s .echo tag body via (by omega) (.inr rfl)]
        simp [MessageKind.allowsLength, hb]
      have hd : (messageOctets MessageKind.echo.code tag body).drop 4 = body := drop_messageOctets _ _ _ 0
      rw [State.takeMessage_handled hc]
      simp only [State.handleMessage, State.takeEcho, State.reply_eq, echoMessage, hd, octetAt_messageOctets_kind,
        octetAt_messageOctets_tag]
      rw [answerOctets_short _ _ _ _ (by omega)]
      rfl
    · refine exec_answered rfl h ?_ rfl rfl
      have hc : s.messageCheck (echoMessage via tag body) = .error .badLength := by
        by_cases hl : body.length ≤ 508
        · rw [echoMessage, State.messageCheck_spelled s .echo tag body via hl (.inr rfl)]
          simp [MessageKind.allowsLength, Nat.not_le.2 hb]
        · exact s.messageCheck_long _ _ _ _ (by omega)
      rw [State.takeMessage_rejected hc, echoMessage, octetAt_messageOctets_kind, octetAt_messageOctets_tag]
      rfl
  case checks =>
    intro s via octets h kind n lengthBad kinds allowed rejected
    have reject {c : Completion} (hc : s.messageCheck { octets := octets, via := via } = .error c) : rejected c.code :=
      exec_answered rfl h (State.takeMessage_rejected hc) rfl rfl
    refine ⟨fun hb => reject (State.messageCheck_badLength hb), fun hb => ⟨fun hk => ?_, fun hk hne hr => ?_,
      fun hk hr ha => ?_⟩⟩
    · have hn : MessageKind.ofCode kind = none := by
        rw [← Option.not_isSome_iff_eq_none, MessageKind.ofCode_isSome]
        exact hk
      refine reject (c := .badKind) ?_
      rw [State.messageCheck_eq hb, hn]
    · obtain ⟨k, hkk⟩ := Option.isSome_iff_exists.1 ((MessageKind.ofCode_isSome kind).2 hk)
      have hke : k ≠ .echo := fun e => hne (by rw [← MessageKind.code_of_ofCode hkk, e]; rfl)
      refine reject (c := .busy) ?_
      rw [State.messageCheck_eq hb, hkk]
      exact if_pos ⟨hr, hke⟩
    · obtain ⟨k, hkk⟩ := Option.isSome_iff_exists.1 ((MessageKind.ofCode_isSome kind).2 hk)
      have hcode := MessageKind.code_of_ofCode hkk
      have hl : ¬k.allowsLength n = true := by rw [MessageKind.allowsLength_iff, hcode]; exact ha
      have hnb : ¬(s.management.restartTakenAt.isSome = true ∧ k ≠ .echo) := by
        rintro ⟨hs, hke⟩
        rcases hr with hr | hr
        · exact hke (MessageKind.eq_echo (hcode.trans hr))
        · simp [hr] at hs
      refine reject (c := .badLength) ?_
      rw [State.messageCheck_eq hb, hkk]
      exact (if_neg hnb).trans (if_neg hl)

end Sys2Proof.Machine
end

section
/-! TABLE_READ and the octets of the ten tables (R162, R177 to R180). -/

namespace Sys2Proof.Machine

/-! ## Octets of the entries -/

/-- A vector as the list of its entries. -/
theorem toList_eq_map_finRange {α : Type} {n : Nat} (v : Vector α n) :
    v.toList = (List.finRange n).map (fun i => v[i]) := by
  apply List.ext_getElem <;> simp

theorem beOctets_one (v : Nat) : beOctets 1 v = [BitVec.ofNat 8 v] := by simp [beOctets]

/-- R20: the fifteen counters in the order of their items. -/
theorem State.stationCounters_toList (s : State) : s.stationCounters.toList =
    [StationCounter.shopBad, .unmatched, .serviceDrop, .crcBad, .malformed, .misaddressed, .claimLoss, .clash, .paceAbort,
      .clockLoss, .responseDrop, .inboxDrop, .reportDrop, .deliveryDrop, .wrapReject].map s.stationCount := by
  rw [toList_eq_map_finRange]
  rfl

/-- R19: the eight counters in the order of their items. -/
theorem State.assocCounters_toList (s : State) (a : AssocId) : (s.assoc a).counters.toList =
    [AssocCounter.enciphered, .deciphered, .tagFail, .replay, .staleGen, .exhaustDrop, .stateDrop, .queueDrop].map
      (s.assocCount a) := by
  rw [toList_eq_map_finRange]
  rfl

/-- R179: the octet of a set of reasons is the sum of the codes of those that hold. -/
theorem reasonsOctet_filter (p : DueReason → Bool) :
    let l := [DueReason.wear, .age, .sequence, .monitor].filter p
    reasonsOctet l =
      (if DueReason.wear ∈ l then 1 else 0) + (if DueReason.age ∈ l then 2 else 0) +
        (if DueReason.sequence ∈ l then 4 else 0) + (if DueReason.monitor ∈ l then 8 else 0) := by
  cases hw : p .wear <;> cases ha : p .age <;> cases hs : p .sequence <;> cases hm : p .monitor <;>
    simp [List.filter, hw, ha, hs, hm, reasonsOctet, DueReason.code]

/-- R112, R179: the renewal-due reasons in one octet. -/
theorem Assoc.reasonsOctet_dueReasons (r : Assoc) : reasonsOctet r.dueReasons =
    (if DueReason.wear ∈ r.dueReasons then 1 else 0) + (if DueReason.age ∈ r.dueReasons then 2 else 0) +
      (if DueReason.sequence ∈ r.dueReasons then 4 else 0) + (if DueReason.monitor ∈ r.dueReasons then 8 else 0) := by
  obtain ⟨p, hp⟩ : ∃ p, r.dueReasons = [DueReason.wear, .age, .sequence, .monitor].filter p := by
    unfold Assoc.dueReasons
    split
    · exact ⟨fun _ => false, rfl⟩
    · split
      · exact ⟨_, rfl⟩
      · exact ⟨fun _ => false, rfl⟩
  rw [hp]
  exact reasonsOctet_filter p

/-! ## The tables -/

theorem State.flow_toList (s : State) (p : Fin 48) : s.flow.toList[p.val]? = some (s.flowEntry p) := by
  simp [State.flowEntry]

theorem State.assocs_toList (s : State) (a : AssocId) : s.assocs.toList[a.val]? = some (s.assoc a) := by
  simp [State.assoc]

theorem State.monitors_toList (s : State) (m : MonitorId) : s.monitors.toList[m.val]? = some (s.monitor m) := by
  simp [State.monitor]

/-- R162: every entry of a table has the octets of its layout. -/
theorem State.length_tableEntry (s : State) (t : TableId) {i : Nat} (h : i < t.entryCount) :
    (s.tableEntry t i).length = t.entrySize := by
  cases t with
  | flow =>
    simp only [State.tableEntry, s.flow_toList ⟨i, h⟩]
    simp [FlowEntry.octets, TableId.entrySize]
  | assocConfig =>
    simp only [State.tableEntry, s.assocs_toList ⟨i, h⟩]
    simp [Policy.octets, TableId.entrySize]
  | assocStatus =>
    simp only [State.tableEntry, s.assocs_toList ⟨i, h⟩]
    simp [Assoc.statusOctets, Bank.octets, TableId.entrySize]
  | monitor =>
    simp only [State.tableEntry, s.monitors_toList ⟨i, h⟩]
    simp [MonitorConfig.octets, TableId.entrySize]
  | monitorStatus =>
    simp only [State.tableEntry, s.monitors_toList ⟨i, h⟩]
    simp [Monitor.statusOctets, TableId.entrySize]
  | settings => rfl
  | assocCounters =>
    simp only [State.tableEntry, s.assocs_toList ⟨i, h⟩]
    simp [Assoc.counterOctets, TableId.entrySize, List.length_flatMap]
  | stationCounters => simp [State.tableEntry, TableId.entrySize, List.length_flatMap]
  | identity => simp [State.tableEntry, identityOctets, TableId.entrySize]
  | reportView =>
    simp only [State.tableEntry]
    split <;> simp [ReportRecord.viewOctets, TableId.entrySize]

/-- R162: the entries of a table that fit. -/
theorem State.length_entries (s : State) (t : TableId) {first n : Nat} (h : first + n ≤ t.entryCount) :
    ((List.range n).flatMap (fun k => s.tableEntry t (first + k))).length = n * t.entrySize := by
  rw [List.length_flatMap, List.map_congr_left (g := fun _ => t.entrySize)]
  · simp
  · intro k hk
    exact s.length_tableEntry t (by have := List.mem_range.1 hk; omega)

/-! ## TABLE_READ (R162) -/

/-- R162: the tables by their identifiers, with the number of their entries and the octets of one. -/
theorem TableId.ofCode_of_counts {table : Byte} {c size : Nat} (h : 1 ≤ table.toNat)
    (hc : (tableIds.map TableId.entryCount)[table.toNat - 1]? = some c)
    (hs : (tableIds.map TableId.entrySize)[table.toNat - 1]? = some size) :
    ∃ t, TableId.ofCode table = some t ∧ t.entryCount = c ∧ t.entrySize = size := by
  rw [List.getElem?_map, Option.map_eq_some_iff] at hc hs
  obtain ⟨t, ht, rfl⟩ := hc
  obtain ⟨t', ht', rfl⟩ := hs
  cases ht.symm.trans ht'
  have h0 : table ≠ 0 := fun e => by rw [e] at h; cases h
  exact ⟨t, (if_neg h0).trans ht, rfl, rfl⟩

theorem TableId.ofCode_none {table : Byte} (h : table.toNat = 0 ∨ 10 < table.toNat) : TableId.ofCode table = none := by
  unfold TableId.ofCode
  split
  · rfl
  · rename_i h0
    have hn : table.toNat ≠ 0 := fun e => h0 (BitVec.eq_of_toNat_eq e)
    exact List.getElem?_eq_none (by simp [tableIds]; omega)

/-- R162: what a read answers, its checks in their order. -/
theorem State.tableRead_badCount {s : State} {table first count : Byte} (h : count.toNat = 0 ∨ 16 < count.toNat) :
    s.tableRead table first count = (.badValue, []) :=
  if_pos (h.imp_left (fun e => BitVec.eq_of_toNat_eq e))

theorem State.tableRead_eq {s : State} {table first count : Byte} (h1 : 1 ≤ count.toNat) (h16 : count.toNat ≤ 16) :
    s.tableRead table first count =
      match TableId.ofCode table with
      | none => (.badIndex, [])
      | some t =>
        if t.entryCount < first.toNat + count.toNat then (.badIndex, [])
        else
          (.done, [table, first, BitVec.ofNat 8 (t.returned count.toNat)] ++
            (List.range (t.returned count.toNat)).flatMap (fun k => s.tableEntry t (first.toNat + k))) := by
  have hn : ¬(count = 0 ∨ 16 < count.toNat) := by
    rintro (e | e)
    · rw [e] at h1; cases h1
    · omega
  exact (if_neg hn).trans rfl

/-- R160: an answer with a code other than DONE to a message whose kind is no key kind. -/
theorem State.conclude_rejected {s : State} {m : ControlMessage} {c : Completion} (b : List Byte)
    (hk : octetAt m.octets 0 ∉ [(0x20 : Byte), 0x21, 0x22]) (hc : c ≠ .done) :
    s.conclude m c b = s.answeredWith [octetAt m.octets 0 + 0x80, octetAt m.octets 1, 0, 0, c.code] false := by
  rw [State.conclude, if_neg hc, State.reject, State.reply_eq, rejection_octets, if_neg hk]

/-- R162: the answer to a TABLE_READ. -/
theorem exec_tableRead {s : State} {via : Carrier} {tag table first count : Byte} {o : List Byte} (h : s.Attentive)
    (e : s.conclude (tableReadMessage via tag table first count) (s.tableRead table first count).1
      (s.tableRead table first count).2 = s.answeredWith o false) :
    exec (.tableRead via tag table first count) s = .next (s.answeredWith o false) := by
  refine exec_answered rfl h.listening ?_ rfl rfl
  rw [tableReadMessage, State.takeMessage_spelled .tableRead _ _ _ (by simp) h.restart rfl, ← e]
  simp only [State.handleMessage, State.takeTableRead]
  rfl

/-- Settles O42: the octets of the entries by their layouts, and a read by its checks. -/
theorem tableReadAnswersTheEntries : Obligations.TableReadAnswersTheEntries := by
  unfold Obligations.TableReadAnswersTheEntries
  refine ⟨?entries, ?read⟩
  case entries =>
    intro s flag left set counters
    refine ⟨rfl, ?identity, ?stationCounters, ?flow, ?config, ?status, ?assocCounters, ?monitor, fun n x h => ?_,
      fun n h => ?_⟩
    case identity => simp [State.tableEntry, identityOctets]
    case stationCounters => rw [State.tableEntry, State.stationCounters_toList, List.flatMap_map]
    case flow =>
      intro p e
      rw [State.tableEntry, State.flow_toList]
      rfl
    case config =>
      intro a p
      rw [State.tableEntry, State.assocs_toList]
      rfl
    case status =>
      intro a r reason bank
      rw [State.tableEntry, State.assocs_toList]
      simp only [Option.map_some, Option.getD_some, Assoc.statusOctets, Bank.octets, beOctets_one,
        Assoc.reasonsOctet_dueReasons, List.append_assoc]
      simp only [r, bank, reason, List.append_assoc]
      cases hs : (s.assoc a).selector <;> rfl
    case assocCounters =>
      intro a r items percent
      rw [State.tableEntry, State.assocs_toList]
      have hp : (s.assoc a).wearPct = percent := by
        simp only [percent, r, Assoc.wearPct]
        cases (s.assoc a).activeBank <;> rfl
      simp only [Option.map_some, Option.getD_some, Assoc.counterOctets, beOctets_one, State.assocCounters_toList,
        List.flatMap_map, hp, List.append_assoc]
      rfl
    case monitor =>
      intro m r c
      constructor <;> rw [State.tableEntry, State.monitors_toList]
      · rfl
      · simp only [Option.map_some, Option.getD_some, Monitor.statusOctets, beOctets_one]
        rfl
    · rw [State.tableEntry, h]
      rfl
    · rw [State.tableEntry, List.getElem?_eq_none h]
  case read =>
    intro s via tag table first count h counts sizes answer
    have rejected (c : Completion) (hc : c ≠ .done) (e : s.tableRead table first count = (c, [])) :
        answer [0x82, tag, 0, 0, c.code] := by
      refine exec_tableRead h ?_
      rw [e, State.conclude_rejected _ (by simp [tableReadMessage, MessageKind.code]) hc]
      simp [tableReadMessage, MessageKind.code]
    refine ⟨fun hc => rejected .badValue (by simp) (State.tableRead_badCount hc), fun h1 h16 => ⟨fun ht => ?_,
      fun c size ht hc hs => ⟨fun hx => ?_, fun hx => ?_⟩⟩⟩
    · exact rejected .badIndex (by simp) (by rw [State.tableRead_eq h1 h16, TableId.ofCode_none ht])
    · obtain ⟨t, ht, rfl, rfl⟩ := TableId.ofCode_of_counts ht hc hs
      exact rejected .badIndex (by simp) (by rw [State.tableRead_eq h1 h16, ht]; exact if_pos hx)
    · obtain ⟨t, ht, rfl, rfl⟩ := TableId.ofCode_of_counts ht hc hs
      have hn : t.returned count.toNat ≤ count.toNat := Nat.min_le_left _ _
      refine ⟨t, ht, fun k hk => s.length_tableEntry t ?_, exec_tableRead h ?_⟩
      · have : k < t.returned count.toNat := hk
        omega
      · have hread : s.tableRead table first count =
            (.done, [table, first, BitVec.ofNat 8 (t.returned count.toNat)] ++
              (List.range (t.returned count.toNat)).flatMap (fun k => s.tableEntry t (first.toNat + k))) := by
          rw [State.tableRead_eq h1 h16, ht]
          exact if_neg (Nat.not_lt.2 hx)
        rw [hread, State.conclude, if_pos rfl, State.reply_eq]
        simp only [answerOctets, List.length_append, s.length_entries t (first := first.toNat)
          (n := t.returned count.toNat) (by omega)]
        simp [tableReadMessage, MessageKind.code, Completion.code, TableId.returned]

end Sys2Proof.Machine
end

section
/-! ASSOC_OPEN, ASSOC_CLOSE and ASSOC_RESUME (R4, R5, R8, R165). -/

namespace Sys2Proof.Machine

/-! ## Messages that name an association -/

/-- R158, R159: a command whose message passes every check and is answered at its taking. -/
theorem exec_handled {c : Instr} {m : ControlMessage} {k : MessageKind} {tag : Byte} {b : List Byte} {s t : State}
    {o : List Byte} (hc : messageOf c = some m) (hm : m.octets = messageOctets k.code tag b) (h : s.Attentive)
    (hb : b.length ≤ 508) (ha : k.allowsLength b.length = true) (e : s.handleMessage m k = t.answeredWith o false)
    (hk : t.engine.current = s.engine.current) (hi : t.management.inbox = s.management.inbox) :
    exec c s = .next (t.answeredWith o false) := by
  obtain ⟨octets, via⟩ := m
  subst hm
  refine exec_answered hc h.listening ?_ hk hi
  rw [State.takeMessage_spelled k _ _ _ hb h.restart ha, e]

theorem assocNamed_eq {o : Byte} {a : AssocId} (h : o.toNat = a.val) : assocNamed o = some a := by
  have hl : o.toNat < 32 := by omega
  rw [assocNamed, dif_pos hl]
  exact congrArg some (Fin.ext h)

theorem assocNamed_none {o : Byte} (h : 31 < o.toNat) : assocNamed o = none := dif_neg (by omega)

theorem octetAt_oneOctetMessage (k : MessageKind) (via : Carrier) (tag o : Byte) :
    octetAt (oneOctetMessage k via tag o).octets 4 = o := octetAt_messageOctets_body _ _ _ 0

/-- The answer's octet for the association that a message names. -/
theorem ofNat_assoc {o : Byte} {a : AssocId} (h : o.toNat = a.val) : BitVec.ofNat 8 a.val = o := by
  rw [← h, BitVec.ofNat_toNat, BitVec.setWidth_eq]

/-! ## The answers (R160, R165) -/

/-- R160: a rejection of a one-octet message. -/
theorem State.oneOctet_rejected (s : State) {k : MessageKind} {c : Completion} (via : Carrier) (tag o : Byte) (b : List Byte)
    (hk : k.code ∉ [(0x20 : Byte), 0x21, 0x22]) (hc : c ≠ .done) :
    s.conclude (oneOctetMessage k via tag o) c b = s.answeredWith [k.code + 0x80, tag, 0, 0, c.code] false := by
  rw [State.conclude_rejected b (by rwa [oneOctetMessage, octetAt_messageOctets_kind]) hc, oneOctetMessage,
    octetAt_messageOctets_kind, octetAt_messageOctets_tag]

theorem State.oneOctet_badIndex (s : State) {k : MessageKind} (via : Carrier) (tag o : Byte)
    (hk : k.code ∉ [(0x20 : Byte), 0x21, 0x22]) :
    s.reject (oneOctetMessage k via tag o) .badIndex = s.answeredWith [k.code + 0x80, tag, 0, 0, 2] false :=
  s.oneOctet_rejected via tag o [] hk (c := .badIndex) (by simp)

/-- R165: the DONE answer names the association and its state after the message. -/
theorem State.assocAnswer_done (s : State) {k : MessageKind} {a : AssocId} {o : Byte} (via : Carrier) (tag : Byte)
    (ho : o.toNat = a.val) :
    State.assocAnswer (oneOctetMessage k via tag o) a (s, .done) =
      s.answeredWith [k.code + 0x80, tag, 0, 2, 0, o, (s.assoc a).state.code] false := by
  rw [State.assocAnswer, State.conclude, if_pos rfl, State.reply_eq, oneOctetMessage, octetAt_messageOctets_kind,
    octetAt_messageOctets_tag, answerOctets_short _ _ _ _ (by simp), ofNat_assoc ho]
  rfl

/-! ## Closing (R5, R113) -/

/-- R112, R113: an association that is CLOSING or VACANT is not renewal-due. -/
theorem Assoc.isDue_closing {r : Assoc} (h : r.state = .closing) : r.isDue = false := by
  rw [Assoc.isDue, Assoc.dueReasons]
  cases r.activeBank with
  | none => rfl
  | some b => simp [h]

/-- R5, R6: an association closes with work in flight, or becomes VACANT at once. -/
theorem State.startClosing_eq (s : State) (a : AssocId) : s.startClosing a = s.setAssoc a
    (if (s.assoc a).inFlight = 0 then (s.assoc a).vacated
     else { s.assoc a with state := .closing, renewDeadline := none }) := by
  have settled : { s.assoc a with state := AssocState.closing }.settleClosing =
      if (s.assoc a).inFlight = 0 then (s.assoc a).vacated else { s.assoc a with state := .closing } := by
    unfold Assoc.settleClosing
    simp only [true_and]
    rfl
  rw [State.startClosing, State.modAssoc_eq_setAssoc, settled, State.evaluateDue_stored]
  split
  · rw [Assoc.requests_silent a (.inl rfl), State.queued_nil]
    rfl
  · have hd := Assoc.isDue_closing (r := { s.assoc a with state := .closing }) rfl
    rw [Assoc.requests_silent a (.inl hd), State.queued_nil, Assoc.evaluated, hd]
    rfl

/-- Settles O47: each message by the state of the association it names. -/
theorem associationsOpenCloseAndResume : Obligations.AssociationsOpenCloseAndResume := by
  unfold Obligations.AssociationsOpenCloseAndResume
  intro s via tag o h
  have answered {c : Instr} {k : MessageKind} {t : State} {l : List Byte}
      (hc : messageOf c = some (oneOctetMessage k via tag o)) (hl : k.allowsLength 1 = true)
      (e : s.handleMessage (oneOctetMessage k via tag o) k = t.answeredWith l false)
      (hk : t.engine.current = s.engine.current) (hi : t.management.inbox = s.management.inbox) :
      exec c s = .next (t.answeredWith l false) := exec_handled hc rfl h (by simp) hl e hk hi
  refine ⟨fun ho => ⟨?_, ?_, ?_⟩, ?named⟩
  case named =>
    intro a ho r store
    have opens {r' : State × Completion} {t : State} {l : List Byte} (e : s.openAssoc a = r')
        (e' : State.assocAnswer (oneOctetMessage .assocOpen via tag o) a r' = t.answeredWith l false)
        (hk : t.engine.current = s.engine.current) (hi : t.management.inbox = s.management.inbox) :
        exec (.assocOpen via tag o) s = .next (t.answeredWith l false) := by
      refine answered rfl rfl ?_ hk hi
      rw [State.handleMessage, State.takeAssocOpen, octetAt_oneOctetMessage, assocNamed_eq ho, ← e', ← e]
    have closes {r' : State × Completion} {t : State} {l : List Byte} (e : s.closeAssoc a = r')
        (e' : State.assocAnswer (oneOctetMessage .assocClose via tag o) a r' = t.answeredWith l false)
        (hk : t.engine.current = s.engine.current) (hi : t.management.inbox = s.management.inbox) :
        exec (.assocClose via tag o) s = .next (t.answeredWith l false) := by
      refine answered rfl rfl ?_ hk hi
      rw [State.handleMessage, State.takeAssocClose, octetAt_oneOctetMessage, assocNamed_eq ho, ← e', ← e]
    have resumes {r' : Assoc} (e : (if r.state = .suspended then { r with state := .live } else r) = r') :
        exec (.assocResume via tag o) s =
          .next ((store r').answeredWith [0x92, tag, 0, 2, 0, o, r'.state.code] false) := by
      refine answered rfl rfl ?_ rfl rfl
      rw [State.handleMessage, State.takeAssocResume, octetAt_oneOctetMessage, assocNamed_eq ho]
      refine (State.assocAnswer_done (s.modAssoc a _) via tag ho).trans ?_
      rw [State.assoc_modAssoc_same, ← e]
      rfl
    have running (hs : r.state = .pending ∨ r.state = .live ∨ r.state = .suspended) (h0 : a ≠ 0) :
        s.closeAssoc a = (s.startClosing a, .done) := by
      rw [State.closeAssoc, if_neg h0]
      rcases hs with hs | hs | hs <;> simp only [show (s.assoc a).state = _ from hs]
    refine ⟨fun hs => ?_, fun h0 hs => ?_, fun h0 hs => ?_, fun h0 => ?_, fun h0 hs => ?_, fun h0 hs => ?_,
      fun h0 hs hf => ?_, fun h0 hs hf => ?_, fun hs => ?_, fun hs => ?_⟩
    · have e : s.openAssoc a = (s, .refused) := by
        unfold State.openAssoc
        split
        · rfl
        · rename_i h0
          rcases hs with hs | hs | hs | hs
          · exact absurd hs h0
          all_goals simp only [show (s.assoc a).state = _ from hs]
      exact opens e (s.oneOctet_rejected via tag o _ (by simp [MessageKind.code]) (by simp)) rfl rfl
    · have e : s.openAssoc a = (s, .busy) := by
        rw [State.openAssoc, if_neg h0]
        simp only [show (s.assoc a).state = _ from hs]
      exact opens e (s.oneOctet_rejected via tag o _ (by simp [MessageKind.code]) (by simp)) rfl rfl
    · have e : s.openAssoc a = (s.modAssoc a Assoc.opened, .done) := by
        rw [State.openAssoc, if_neg h0]
        simp only [show (s.assoc a).state = _ from hs]
      refine opens e ((State.assocAnswer_done (s.modAssoc a Assoc.opened) via tag ho).trans ?_) rfl rfl
      rw [State.assoc_modAssoc_same]
      rfl
    · exact closes (if_pos h0) (s.oneOctet_rejected via tag o _ (by simp [MessageKind.code]) (by simp)) rfl rfl
    · have e : s.closeAssoc a = (s, .done) := by
        rw [State.closeAssoc, if_neg h0]
        simp only [show (s.assoc a).state = _ from hs]
      refine closes e ((State.assocAnswer_done s via tag ho).trans ?_) rfl rfl
      rw [show (s.assoc a).state = _ from hs]
      rfl
    · have e : s.closeAssoc a = (s, .done) := by
        rw [State.closeAssoc, if_neg h0]
        simp only [show (s.assoc a).state = _ from hs]
      refine closes e ((State.assocAnswer_done s via tag ho).trans ?_) rfl rfl
      rw [show (s.assoc a).state = _ from hs]
      rfl
    · refine closes (running hs h0) ((State.assocAnswer_done (s.startClosing a) via tag ho).trans ?_) rfl rfl
      rw [State.startClosing_eq, if_neg (show (s.assoc a).inFlight ≠ 0 from Nat.ne_of_gt hf), State.assoc_setAssoc, if_pos rfl]
      rfl
    · refine closes (running hs h0) ((State.assocAnswer_done (s.startClosing a) via tag ho).trans ?_) rfl rfl
      rw [State.startClosing_eq, if_pos (show (s.assoc a).inFlight = 0 from hf), State.assoc_setAssoc, if_pos rfl]
      rfl
    · exact resumes (if_pos hs)
    · refine (resumes (if_neg hs)).trans ?_
      rw [show store r = s from s.setAssoc_self a]
  · refine answered (k := .assocOpen) rfl rfl ?_ rfl rfl
    rw [State.handleMessage, State.takeAssocOpen, octetAt_oneOctetMessage, assocNamed_none ho]
    exact s.oneOctet_badIndex via tag o (by simp [MessageKind.code])
  · refine answered (k := .assocClose) rfl rfl ?_ rfl rfl
    rw [State.handleMessage, State.takeAssocClose, octetAt_oneOctetMessage, assocNamed_none ho]
    exact s.oneOctet_badIndex via tag o (by simp [MessageKind.code])
  · refine answered (k := .assocResume) rfl rfl ?_ rfl rfl
    rw [State.handleMessage, State.takeAssocResume, octetAt_oneOctetMessage, assocNamed_none ho]
    exact s.oneOctet_badIndex via tag o (by simp [MessageKind.code])

end Sys2Proof.Machine
end

section
/-! KEY_SWITCH and KEY_WITHDRAW (R106, R109, R113). -/

namespace Sys2Proof.Machine

/-! ## Key messages -/

theorem octetAt_keyMessage (k : MessageKind) (via : Carrier) (tag o : Byte) (g : W16) :
    octetAt (keyMessage k via tag o g).octets 4 = o := octetAt_messageOctets_body _ _ _ 0

theorem word16At_keyMessage (k : MessageKind) (via : Carrier) (tag o : Byte) (g : W16) :
    word16At (keyMessage k via tag o g).octets 6 = g := by
  have body (i : Nat) : octetAt (keyMessage k via tag o g).octets (4 + (2 + i)) = octetAt (word 2 g) i := by
    rw [keyMessage, octetAt_messageOctets_body, keyAnswerBody, Nat.add_comm]
    rfl
  have hw := word16At_word g []
  rw [List.append_nil] at hw
  exact (congrArg₂ (· ++ ·) (body 0) (body 1)).trans hw

/-- R100: the answer to a key message names the association and the generation whatever its code. -/
theorem State.keyReply_eq (s : State) (k : MessageKind) (via : Carrier) (tag o : Byte) (g : W16) (c : Completion) :
    s.reply (keyMessage k via tag o g) c (keyBodyOf (keyMessage k via tag o g)) =
      s.answeredWith ([k.code + 0x80, tag, 0, 4, c.code, o, 0] ++ word 2 g) false := by
  rw [State.reply_eq, keyBodyOf, octetAt_keyMessage, word16At_keyMessage, keyMessage, octetAt_messageOctets_kind,
    octetAt_messageOctets_tag, answerOctets_short _ _ _ _ (by simp [keyAnswerBody])]
  simp [keyAnswerBody]

/-- R106: the answer to a KEY_SWITCH. -/
theorem exec_keySwitch {s t : State} {via : Carrier} {tag o : Byte} {g : W16} {c : Completion} (h : s.Attentive)
    (e : s.keySwitch o g = (t, c)) (hk : t.engine.current = s.engine.current)
    (hi : t.management.inbox = s.management.inbox) :
    exec (.keySwitch via tag o g) s = .next (t.answeredWith ([0xA1, tag, 0, 4, c.code, o, 0] ++ word 2 g) false) := by
  refine exec_handled (k := .keySwitch) rfl rfl h (by simp [keyAnswerBody])
    (by simp [keyAnswerBody, MessageKind.allowsLength]) ?_ hk hi
  rw [State.handleMessage, State.takeKeySwitch, octetAt_keyMessage, word16At_keyMessage, e]
  exact t.keyReply_eq .keySwitch via tag o g c

/-- R109: the answer to a KEY_WITHDRAW. -/
theorem exec_keyWithdraw {s t : State} {via : Carrier} {tag o : Byte} {g : W16} {c : Completion} (h : s.Attentive)
    (e : s.keyWithdraw o g = (t, c)) (hk : t.engine.current = s.engine.current)
    (hi : t.management.inbox = s.management.inbox) :
    exec (.keyWithdraw via tag o g) s = .next (t.answeredWith ([0xA2, tag, 0, 4, c.code, o, 0] ++ word 2 g) false) := by
  refine exec_handled (k := .keyWithdraw) rfl rfl h (by simp [keyAnswerBody])
    (by simp [keyAnswerBody, MessageKind.allowsLength]) ?_ hk hi
  rw [State.handleMessage, State.takeKeyWithdraw, octetAt_keyMessage, word16At_keyMessage, e]
  exact t.keyReply_eq .keyWithdraw via tag o g c

/-! ## Their checks (R106, R109) -/

theorem State.keyMessageCheck_named (s : State) {o : Byte} {a : AssocId} (h : o.toNat = a.val) :
    s.keyMessageCheck o =
      if (s.assoc a).state = .vacant ∨ (s.assoc a).state = .closing then .error .refused
      else if (s.assoc a).transaction.isSome then .error .busy
      else .ok a := by
  rw [State.keyMessageCheck, assocNamed_eq h]

/-- A key message that fails a check of all three kinds. -/
theorem State.key_rejected {s : State} {o : Byte} {c : Completion} (g : W16) (h : s.keyMessageCheck o = .error c) :
    s.keySwitch o g = (s, c) ∧ s.keyWithdraw o g = (s, c) := by
  rw [State.keySwitch, State.keyWithdraw, h]
  exact ⟨rfl, rfl⟩

/-- Law 1: the FRESH bank is the one an association reads as its FRESH bank. -/
theorem Assoc.BanksInOrder.freshBank_eq {r : Assoc} (h : r.BanksInOrder) {b : BankId} (hb : (r.bank b).state = .fresh) :
    r.freshBank = some b := by
  cases b with
  | bankA => exact if_pos hb
  | bankB => exact (if_neg (fun e => h.oneFresh ⟨e, hb⟩)).trans (if_pos hb)

theorem Assoc.freshBank_eq_none {r : Assoc} : r.freshBank = none ↔ ∀ b, (r.bank b).state ≠ .fresh := by
  rw [Assoc.freshBank, Assoc.bankIn_none]
  exact ⟨fun ⟨hA, hB⟩ b => by cases b <;> assumption, fun h => ⟨h .bankA, h .bankB⟩⟩

/-- Law 1: the generation of the ACTIVE bank. -/
theorem Assoc.BanksInOrder.activeHolds_iff {r : Assoc} (h : r.BanksInOrder) (g : W16) :
    r.activeHolds g = true ↔ ∃ b, (r.bank b).state = .active ∧ (r.bank b).generation = g := by
  unfold Assoc.activeHolds
  split
  · rename_i hn
    rw [Assoc.activeBank_eq_none] at hn
    exact ⟨fun e => (nomatch e), fun ⟨b, hb, _⟩ => absurd hb (hn b)⟩
  · rename_i b hb
    rw [beq_iff_eq]
    refine ⟨fun e => ⟨b, Assoc.bankIn_state hb, e⟩, fun ⟨c, hc, e⟩ => ?_⟩
    cases hb.symm.trans (h.activeBank_eq hc)
    exact e

/-- R106: a switch with no FRESH bank of the generation. -/
theorem State.keySwitch_held {s : State} {o : Byte} {a : AssocId} {g : W16} (hc : s.keyMessageCheck o = .ok a)
    (hf : ∀ b, ((s.assoc a).bank b).state = .fresh → ((s.assoc a).bank b).generation ≠ g) :
    s.keySwitch o g = if (s.assoc a).activeHolds g then (s, .done) else (s, .badValue) := by
  rw [State.keySwitch, hc]
  cases hb : (s.assoc a).freshBank with
  | none => simp only [hb]
  | some b =>
    simp only [hb]
    exact if_neg (hf b (Assoc.bankIn_state hb))

/-- R106: a switch to the FRESH bank. -/
theorem State.keySwitch_promotes {s : State} {o : Byte} {a : AssocId} {g : W16} {b : BankId}
    (hc : s.keyMessageCheck o = .ok a) (hb : (s.assoc a).freshBank = some b)
    (hg : ((s.assoc a).bank b).generation = g) : s.keySwitch o g = (s.promote a b, .done) := by
  rw [State.keySwitch, hc]
  simp only [hb]
  exact if_pos hg

/-- R109: a withdrawal at the FRESH bank. -/
theorem State.keyWithdraw_fresh {s : State} {o : Byte} {a : AssocId} {b : BankId} (g : W16)
    (hc : s.keyMessageCheck o = .ok a) (hb : (s.assoc a).freshBank = some b) :
    s.keyWithdraw o g =
      if ((s.assoc a).bank b).generation ≠ g then (s, .badValue)
      else if ((s.assoc a).bank b).inUse ≠ 0 then (s, .busy)
      else ((s.modBank a b (fun _ => emptyBank)).evaluateDue a, .done) := by
  rw [State.keyWithdraw, hc]
  simp only [hb]
  rfl

/-- R109: a withdrawal with no FRESH bank. -/
theorem State.keyWithdraw_none {s : State} {o : Byte} {a : AssocId} (g : W16)
    (hc : s.keyMessageCheck o = .ok a) (hb : (s.assoc a).freshBank = none) : s.keyWithdraw o g = (s, .done) := by
  rw [State.keyWithdraw, hc]
  simp only [hb]

/-- R113: an evaluation leaves the item in progress and the inbox. -/
theorem State.renewalEvaluated_frame (s : State) (a : AssocId) (r : Assoc) :
    (s.renewalEvaluated a r).engine.current = s.engine.current ∧
      (s.renewalEvaluated a r).management.inbox = s.management.inbox := by
  rw [← State.evaluateDue_setAssoc, State.evaluateDue_stored]
  exact ⟨rfl, rfl⟩

/-- Settles O49: the checks by the association's record, the promotion and the withdrawal by what they store. -/
theorem keySwitchAndWithdraw : Obligations.KeySwitchAndWithdraw := by
  unfold Obligations.KeySwitchAndWithdraw
  intro s via tag o g h switched withdrawn
  have switches {t : State} {c : Completion} (e : s.keySwitch o g = (t, c)) (hk : t.engine.current = s.engine.current)
      (hi : t.management.inbox = s.management.inbox) : switched t c.code := exec_keySwitch h e hk hi
  have withdraws {t : State} {c : Completion} (e : s.keyWithdraw o g = (t, c)) (hk : t.engine.current = s.engine.current)
      (hi : t.management.inbox = s.management.inbox) : withdrawn t c.code := exec_keyWithdraw h e hk hi
  have rejected {c : Completion} (e : s.keyMessageCheck o = .error c) : switched s c.code ∧ withdrawn s c.code :=
    ⟨switches (State.key_rejected g e).1 rfl rfl, withdraws (State.key_rejected g e).2 rfl rfl⟩
  refine ⟨fun ho => rejected (c := .badIndex) (by rw [State.keyMessageCheck, assocNamed_none ho]), ?named⟩
  intro a ho hb r
  have check := s.keyMessageCheck_named ho
  refine ⟨fun hs => rejected (c := .refused) (by rw [check]; exact if_pos hs), fun hs => ⟨fun ht => ?_, fun ht => ?_⟩⟩
  · refine rejected (c := .busy) ?_
    rw [check, if_neg (by rintro (e | e) <;> rcases hs with hs | hs | hs <;> cases e.symm.trans hs)]
    exact if_pos ht
  · have hok : s.keyMessageCheck o = .ok a := by
      rw [check, if_neg (by rintro (e | e) <;> rcases hs with hs | hs | hs <;> cases e.symm.trans hs)]
      exact if_neg (by rw [show (s.assoc a).transaction = none from ht]; simp)
    refine ⟨fun b hf hg => ?fresh, fun hn => ?other⟩
    case fresh =>
      have hfb := hb.freshBank_eq hf
      have hw := State.keyWithdraw_fresh g hok hfb
      rw [if_neg (not_not.2 hg)] at hw
      refine ⟨fun r' hr' => ?_, fun hu => ?_, fun hu => ?_⟩
      · obtain ⟨hk, hi⟩ := s.renewalEvaluated_frame a r'
        refine switches (c := .done) ?_ hk hi
        rw [State.keySwitch_promotes hok hfb hg, State.promote, State.modAssoc_eq_setAssoc, State.evaluateDue_setAssoc, hr']
        rfl
      · exact withdraws (c := .busy) (hw.trans (if_pos hu)) rfl rfl
      · obtain ⟨hk, hi⟩ := s.renewalEvaluated_frame a (r.setBank b emptyBank)
        refine withdraws (c := .done) ((hw.trans (if_neg (not_not.2 hu))).trans ?_) hk hi
        rw [State.modBank, State.modAssoc_eq_setAssoc, State.evaluateDue_setAssoc]
    case other =>
      have hheld := State.keySwitch_held hok hn
      refine ⟨fun ha => ?_, fun ha => ?_, fun hf => ?_, fun ⟨b, hf⟩ => ?_⟩
      · exact switches (c := .done) (hheld.trans (if_pos ((hb.activeHolds_iff g).2 ha))) rfl rfl
      · refine switches (c := .badValue) (hheld.trans (if_neg ?_)) rfl rfl
        rw [hb.activeHolds_iff g]
        rintro ⟨b, hba, hg⟩
        exact ha b hba hg
      · exact withdraws (c := .done) (State.keyWithdraw_none g hok (Assoc.freshBank_eq_none.2 hf)) rfl rfl
      · exact withdraws (c := .badValue) ((State.keyWithdraw_fresh g hok (hb.freshBank_eq hf)).trans (if_pos (hn b hf))) rfl rfl

end Sys2Proof.Machine
end

section
/-! A list of renewal-due evaluations (R113, R114), and the Time Base second (R16, R21, R171). -/

namespace Sys2Proof.Machine

/-! ## Evaluating a list -/

/-- R114: without room for it a RENEW_REQUEST is not made. -/
theorem Assoc.requests_room (r : Assoc) (a : AssocId) (s : State) : r.requests a s.controlRoom =
    if s.sendQueue.taken < 32 then (r.requests a true).take (16 - s.engine.outbound.length) else [] := by
  have hlen : (r.requests a true).length ≤ 1 := by
    unfold Assoc.requests
    split
    · split <;> simp
    · simp
  by_cases hq : s.sendQueue.taken < 32
  · rw [if_pos hq]
    by_cases hl : s.engine.outbound.length < 16
    · rw [List.take_of_length_le (by omega)]
      simp [State.controlRoom, hq, hl]
    · rw [Nat.sub_eq_zero_of_le (by omega), List.take_zero]
      exact Assoc.requests_silent a (.inr (.inr (by simp [State.controlRoom, hl])))
  · rw [if_neg hq]
    exact Assoc.requests_silent a (.inr (.inr (by simp [State.controlRoom, hq])))

/-- R113, R114: what the evaluation of a list comes to: each record, and the RENEW_REQUESTs while there is control room. -/
theorem State.evaluateAll_eq (s : State) {l : List AssocId} (hl : l.Nodup) : s.evaluateAll l =
    { s with
      assocs := Vector.ofFn (fun a : AssocId => if a ∈ l then (s.assoc a).evaluated s.now else s.assoc a)
      engine :=
        { s.engine with
          outbound := s.engine.outbound ++
            if s.sendQueue.taken < 32 then
              (l.flatMap (fun a => (s.assoc a).requests a true)).take (16 - s.engine.outbound.length)
            else [] } } := by
  induction l generalizing s with
  | nil =>
    have ha : s.assocs = Vector.ofFn (fun a : AssocId => s.assoc a) := Vector.ext fun i hi => by simp [State.assoc]
    simp [State.evaluateAll, ← ha]
  | cons a l ih =>
    obtain ⟨hal, hnd⟩ := List.nodup_cons.1 hl
    have hne (c : AssocId) (hc : c ∈ l) : c ≠ a := fun e => hal (e ▸ hc)
    let t := s.evaluateDue a
    have ht : t = _ := s.evaluateDue_eq a
    have hother (c : AssocId) (hc : c ≠ a) : t.assoc c = s.assoc c := by
      rw [ht]
      exact (s.assoc_setAssoc a c _).trans (if_neg hc)
    have hsame : t.assoc a = (s.assoc a).evaluated s.now := by
      rw [ht]
      exact (s.assoc_setAssoc a a _).trans (if_pos rfl)
    have hrequests : l.flatMap (fun c => (t.assoc c).requests c true) = l.flatMap (fun c => (s.assoc c).requests c true) :=
      List.flatMap_congr fun c hc => by rw [hother c (hne c hc)]
    have hrecords : (Vector.ofFn fun c : AssocId => if c ∈ l then (t.assoc c).evaluated t.now else t.assoc c) =
        Vector.ofFn fun c : AssocId => if c ∈ a :: l then (s.assoc c).evaluated s.now else s.assoc c := by
      have hnow : t.now = s.now := by rw [ht]; rfl
      refine congrArg Vector.ofFn (funext fun c => ?_)
      by_cases hc : c = a
      · subst hc
        rw [if_neg hal, if_pos List.mem_cons_self, hsame]
      · simp only [List.mem_cons, hc, false_or, hother c hc, hnow]
    have hitems : (s.assoc a).requests a s.controlRoom ++
        (if s.sendQueue.taken < 32 then
          (l.flatMap (fun c => (s.assoc c).requests c true)).take
            (16 - (s.engine.outbound ++ (s.assoc a).requests a s.controlRoom).length)
        else []) =
        if s.sendQueue.taken < 32 then
          ((a :: l).flatMap (fun c => (s.assoc c).requests c true)).take (16 - s.engine.outbound.length)
        else [] := by
      rw [Assoc.requests_room]
      split
      · rw [List.flatMap_cons, List.take_append]
        congr 2
        simp only [List.length_append, List.length_take]
        omega
      · rfl
    have hqueue : t.engine.outbound = s.engine.outbound ++ (s.assoc a).requests a s.controlRoom := by rw [ht]
    have hplaces : t.sendQueue = s.sendQueue := by rw [ht]
    show t.evaluateAll l = _
    rw [ih t hnd, hrequests, hrecords, hqueue, hplaces, List.append_assoc, hitems, ht]

/-! ## The Time Base second -/

/-- R16, R21, R113, R171: the Association Store takes a second. -/
theorem State.storeSecond_eq (s : State) : s.storeSecond =
    { s with
      time := { s.time with storeWaits := false }
      assocs := Vector.ofFn (fun a : AssocId => (s.assoc a).second.evaluated s.now)
      engine :=
        { s.engine with
          outbound := s.engine.outbound ++
            if s.sendQueue.taken < 32 then
              ((List.finRange 32).flatMap (fun a => (s.assoc a).second.requests a true)).take
                (16 - s.engine.outbound.length)
            else [] } } := by
  have hsecond (a : AssocId) : ({ s.setStoreWaits false with assocs := s.assocs.map Assoc.second } : State).assoc a =
      (s.assoc a).second := by simp [State.assoc]
  unfold State.storeSecond
  rw [State.evaluateAll_eq _ (List.nodup_finRange 32)]
  simp only [List.mem_finRange, if_true, hsecond]
  rfl

/-- Settles O54: the increase of the count, and the Association Store's part of the second. -/
theorem secondAgesTheKeysAndEvaluates : Obligations.SecondAgesTheKeysAndEvaluates := by
  unfold Obligations.SecondAgesTheKeysAndEvaluates
  intro s h hd u aged later sends
  have hdue : s.secondDue = true := by
    rw [State.secondDue, Bool.or_eq_true]
    exact hd.imp_right State.mayTurn_iff.2
  let v : State := if s.time.storeWaits then s else s.newSecond
  have hv : v = if s.time.storeWaits = true then s else s.atSecond := rfl
  have frame : v.assocs = s.assocs ∧ v.engine = s.engine ∧ v.sendQueue = s.sendQueue ∧ v.management = s.management := by
    simp only [v]
    split <;> exact ⟨rfl, rfl, rfl, rfl⟩
  obtain ⟨hassocs, hengine, hplaces, hman⟩ := frame
  have hexec : exec .timeBaseSecond s = .next v.storeSecond := by
    have hsettle : v.storeSecond.settle = v.storeSecond := by
      rw [State.storeSecond_eq]
      refine State.settle_busy ?_ ?_
      · show v.engine.current.isSome = true
        rw [hengine, h.busy]
      · show v.management.inbox = []
        rw [hman, h.inbox]
    simp only [exec, execTimeBaseSecond, State.event, h.running, hdue, Bool.and_self, if_true]
    exact congrArg Host.Outcome.next hsettle
  have hsends (a : AssocId) : (v.assoc a).second.requests a true = sends a := by
    rw [State.assoc_congr hassocs]
    have hl : (s.assoc a).second = later (s.assoc a) := rfl
    have hdeadline : (later (s.assoc a)).renewDeadline = (s.assoc a).renewDeadline := rfl
    simp only [hl, Assoc.requests, hdeadline, and_true, sends]
    cases (later (s.assoc a)).activeBank with
    | none => simp
    | some b => rfl
  rw [hexec, State.storeSecond_eq]
  simp only [hsends]
  have htaken : v.sendQueue.taken = s.sendQueue.taken := by rw [hplaces]
  simp only [hengine, htaken, State.assoc_congr hassocs]
  rfl

end Sys2Proof.Machine
end

section
/-! TABLE_WRITE to ASSOC_CONFIG (R113, R117, R163, R164). -/

namespace Sys2Proof.Machine

/-! ## The policy an entry carries (R164, R179) -/

theorem Direction.ofCode_eq_some {o : Byte} {d : Direction} : Direction.ofCode o = some d ↔ o = d.code := by
  unfold Direction.ofCode
  constructor
  · intro h
    split_ifs at h with h0 h1 h2 <;> cases h <;> assumption
  · rintro rfl
    cases d <;> rfl

theorem TrafficClass.ofCode_eq_some {o : Byte} {c : TrafficClass} : TrafficClass.ofCode o = some c ↔ o = c.code := by
  unfold TrafficClass.ofCode
  constructor
  · intro h
    split_ifs at h with h0 h1 h2 <;> cases h <;> assumption
  · rintro rfl
    cases c <;> rfl

/-- R177: a 4-octet field is its four octets. -/
theorem word32At_eq (l : List Byte) (i : Nat) :
    word32At l i = octetAt l i ++ octetAt l (i + 1) ++ octetAt l (i + 2) ++ octetAt l (i + 3) := by
  apply BitVec.eq_of_toNat_eq
  simp only [word32At, word16At, BitVec.toNat_append, Nat.shiftLeft_or_distrib, ← Nat.shiftLeft_add, Nat.or_assoc]

/-- R164, R179: the policy that an entry's octets carry. -/
theorem policyOfOctets_eq_some {a : AssocId} {e : List Byte} {p : Policy} :
    policyOfOctets a e = some p ↔
      octetAt e 0 = p.direction.code ∧ octetAt e 1 = p.trafficClass.code ∧ (a ≠ 0 → p.trafficClass ≠ .control) ∧
        p.softLimit = word32At e 4 ∧ p.hardLimit = word32At e 8 ∧ p.maxKeyAge = word32At e 12 ∧
        p.drainPeriod = octetAt e 16 ∧ p.renewInterval = octetAt e 17 := by
  rw [← Direction.ofCode_eq_some, ← TrafficClass.ofCode_eq_some]
  unfold policyOfOctets
  obtain ⟨d, c, soft, hard, age, drain, interval⟩ := p
  cases hd : Direction.ofCode (octetAt e 0) with
  | none => simp
  | some d' =>
    cases hc : TrafficClass.ofCode (octetAt e 1) with
    | none => simp
    | some c' =>
      simp only [Option.some.injEq]
      constructor
      · intro h
        split at h
        · cases h
        · rename_i hn
          cases h
          exact ⟨rfl, rfl, fun ha hx => hn ⟨ha, hx⟩, rfl, rfl, rfl, rfl, rfl⟩
      · rintro ⟨rfl, rfl, hn, rfl, rfl, rfl, rfl, rfl⟩
        exact if_neg (fun h => hn h.1 h.2)

/-! ## Writing the entries (R164) -/

/-- R117, R164: a record with a written policy, as clamped. -/
def Assoc.policed (r : Assoc) (a : AssocId) (p : Policy) : Assoc := { r with policy := clampPolicy a r p }

theorem writePolicyEntry_eq {w : Written} {a : AssocId} {e : List Byte} {p : Policy} (h : policyOfOctets a e = some p) :
    writePolicyEntry w a.val e =
      (w.1.setAssoc a ((w.1.assoc a).policed a p), if clampPolicy a (w.1.assoc a) p = p then w.2 else w.2 + 1) := by
  rw [writePolicyEntry, dif_pos a.isLt]
  simp only [Fin.eta, h]
  rfl

/-- All association records at once. -/
def State.withAssocs (s : State) (f : AssocId → Assoc) : State := { s with assocs := Vector.ofFn f }

@[simp] theorem State.withAssocs_assoc (s : State) (f : AssocId → Assoc) (a : AssocId) : (s.withAssocs f).assoc a = f a := by
  simp [State.assoc, State.withAssocs]

theorem State.withAssocs_self (s : State) : s.withAssocs s.assoc = s := by
  have h : Vector.ofFn s.assoc = s.assocs := Vector.ext fun i hi => by simp [State.assoc]
  rw [State.withAssocs, h]

theorem State.withAssocs_setAssoc (s : State) (f : AssocId → Assoc) (a : AssocId) (r : Assoc) :
    (s.withAssocs f).setAssoc a r = s.withAssocs (Function.update f a r) := by
  have h : (Vector.ofFn f).set a r = Vector.ofFn (Function.update f a r) := Vector.ext fun i hi => by
    by_cases hi' : (a : Nat) = i
    · subst hi'
      simp
    · have hn : (⟨i, hi⟩ : AssocId) ≠ a := fun e => hi' (by rw [← e])
      simp [hi', Function.update_of_ne hn]
  rw [State.withAssocs, State.withAssocs, State.setAssoc, h]

/-- The records once policies are written to the `n` associations from `first` on. -/
def State.policies (s : State) (p : AssocId → Policy) (first n : Nat) (a : AssocId) : Assoc :=
  if first ≤ a.val ∧ a.val < first + n then (s.assoc a).policed a (p a) else s.assoc a

/-- One more association is written. -/
theorem State.policies_succ (s : State) (p : AssocId → Policy) {first n : Nat} {a : AssocId} (ha : a.val = first + n) :
    Function.update (s.policies p first n) a ((s.assoc a).policed a (p a)) = s.policies p first (n + 1) := by
  funext c
  by_cases hc : c = a
  · subst hc
    rw [Function.update_self, State.policies, if_pos (by omega)]
  · have hv : c.val ≠ first + n := fun e => hc (Fin.ext (e.trans ha.symm))
    rw [Function.update_of_ne hc]
    exact if_congr (by omega) rfl rfl

/-- A count with one more member. -/
theorem countP_extend {α : Type} {l : List α} {a : α} (hl : l.Nodup) (ha : a ∈ l) {p q : α → Bool}
    (h : ∀ x, x ≠ a → q x = p x) (hp : p a = false) : l.countP q = l.countP p + if q a = true then 1 else 0 := by
  induction l with
  | nil => cases ha
  | cons x l ih =>
    obtain ⟨hx, hnd⟩ := List.nodup_cons.1 hl
    by_cases hxa : x = a
    · subst hxa
      have hrest : l.countP q = l.countP p :=
        List.countP_congr fun y hy => by rw [h y (fun e => hx (e ▸ hy))]
      rw [List.countP_cons, List.countP_cons, hrest, hp]
      simp
    · rw [List.countP_cons, List.countP_cons, ih hnd ((List.mem_cons.1 ha).resolve_left (Ne.symm hxa)), h x hxa]
      omega

/-- R164: a checked write to ASSOC_CONFIG: the policies stored, and in how many entries a clamp changed a value. -/
theorem State.writeEntries_policies (s : State) (l : List Byte) (p : AssocId → Policy) {first n : Nat}
    (hn : first + n ≤ 32)
    (hp : ∀ a : AssocId, first ≤ a.val ∧ a.val < first + n → policyOfOctets a (entryAt 20 l (a.val - first)) = some (p a)) :
    s.writeEntries .assocConfig first n l =
      (s.withAssocs (s.policies p first n),
        (List.finRange 32).countP (fun a : AssocId =>
          decide (first ≤ a.val ∧ a.val < first + n) && decide (clampPolicy a (s.assoc a) (p a) ≠ p a))) := by
  induction n with
  | zero =>
    have hnone : s.policies p first 0 = s.assoc := funext fun a => if_neg (by omega)
    have hcount : (List.finRange 32).countP (fun a : AssocId =>
        decide (first ≤ a.val ∧ a.val < first + 0) && decide (clampPolicy a (s.assoc a) (p a) ≠ p a)) = 0 := by
      refine List.countP_eq_zero.2 fun a _ => ?_
      have hno : ¬(first ≤ a.val ∧ a.val < first + 0) := by omega
      simp only [hno, decide_false, Bool.false_and]
      simp
    rw [hnone, State.withAssocs_self, hcount]
    rfl
  | succ n ih =>
    let a : AssocId := ⟨first + n, by omega⟩
    have hpa : policyOfOctets a (entryAt 20 l n) = some (p a) := by
      have := hp a ⟨Nat.le_add_right _ _, Nat.lt_succ_self _⟩
      rwa [show a.val - first = n from Nat.add_sub_cancel_left _ _] at this
    have hsame : s.policies p first n a = s.assoc a := if_neg (fun h => Nat.lt_irrefl _ h.2)
    have hstep : s.writeEntries .assocConfig first (n + 1) l =
        writePolicyEntry (s.writeEntries .assocConfig first n l) a.val (entryAt 20 l n) := by
      rw [State.writeEntries, List.range_succ, List.foldl_append]
      rfl
    rw [hstep, ih (by omega) (fun c hc => hp c ⟨hc.1, Nat.lt_succ_of_lt hc.2⟩), writePolicyEntry_eq hpa]
    simp only [State.withAssocs_assoc, hsame, State.withAssocs_setAssoc, State.policies_succ s p (a := a) rfl]
    refine Prod.ext rfl ?_
    have hcount := countP_extend (List.nodup_finRange 32) (List.mem_finRange a)
      (p := fun c : AssocId => decide (first ≤ c.val ∧ c.val < first + n) && decide (clampPolicy c (s.assoc c) (p c) ≠ p c))
      (q := fun c : AssocId =>
        decide (first ≤ c.val ∧ c.val < first + (n + 1)) && decide (clampPolicy c (s.assoc c) (p c) ≠ p c))
      (fun c hc => by
        have hv : c.val ≠ first + n := fun e => hc (Fin.ext e)
        have hiff : (first ≤ c.val ∧ c.val < first + (n + 1)) ↔ (first ≤ c.val ∧ c.val < first + n) := by omega
        simp only [hiff])
      (by simp [a])
    rw [hcount]
    have hin : first ≤ a.val ∧ a.val < first + (n + 1) := ⟨Nat.le_add_right _ _, Nat.lt_succ_self _⟩
    by_cases hc : clampPolicy a (s.assoc a) (p a) = p a <;> simp [hc, hin]

/-! ## The message (R163, R164) -/

/-- R158: a command whose message is taken at once, and what its taking comes to. -/
theorem exec_taken {c : Instr} {m : ControlMessage} {s t : State} (hm : messageOf c = some m) (h : s.Listening)
    (e : s.takeMessage m = t) (hk : t.engine.current = s.engine.current) (hi : t.management.inbox = []) :
    exec c s = .next t := by
  subst e
  rw [exec_message hm, State.messageEvent, State.event, State.hears, h.management, h.busy.running,
    State.receiveMessage_taken h hk hi]
  rfl

/-- R163: a write to ASSOC_CONFIG that passes every check. -/
theorem tableWriteCheck_policies {first count : Byte} {entries : List Byte} (h1 : 1 ≤ count.toNat) (h8 : count.toNat ≤ 8)
    (hl : entries.length = 20 * count.toNat) (hn : first.toNat + count.toNat ≤ 32)
    (hp : ∀ a : AssocId, first.toNat ≤ a.val ∧ a.val < first.toNat + count.toNat →
      (policyOfOctets a (entryAt 20 entries (a.val - first.toNat))).isSome = true) :
    tableWriteCheck 2 first count entries = .ok .assocConfig := by
  have hcount : ¬(count = 0 ∨ 8 < count.toNat) := by
    rintro (e | e)
    · rw [e] at h1; cases h1
    · omega
  have hlength : ¬entries.length ≠ count.toNat * TableId.assocConfig.entrySize := by
    rw [hl, Nat.mul_comm]
    exact not_not.2 rfl
  have hfits : ¬TableId.assocConfig.entryCount < first.toNat + count.toNat := Nat.not_lt.2 hn
  have hentries : (List.range count.toNat).all (fun k => TableId.assocConfig.entryPasses (first.toNat + k)
      (entryAt TableId.assocConfig.entrySize entries k)) = true := by
    refine List.all_eq_true.2 fun k hk => ?_
    have hk' := List.mem_range.1 hk
    have hb : first.toNat + k < 32 := by omega
    have := hp ⟨first.toNat + k, hb⟩ ⟨Nat.le_add_right _ _, Nat.add_lt_add_left hk' _⟩
    rw [TableId.entryPasses, dif_pos hb]
    rwa [show first.toNat + k - first.toNat = k from Nat.add_sub_cancel_left _ _] at this
  have htable : TableId.ofCode 2 = some .assocConfig := rfl
  rw [tableWriteCheck, htable]
  exact (if_neg (by simp [TableId.readOnly])).trans ((if_neg hcount).trans ((if_neg hlength).trans
    ((if_neg hfits).trans (if_pos hentries))))

/-- R163, R164: the taking of such a write: the entries first, then renewal-due and the answer in either order. -/
theorem State.takeMessage_policies {s w : State} {via : Carrier} {tag first count : Byte} {entries : List Byte} {n : Nat}
    (hr : s.management.restartTakenAt = none) (h1 : 1 ≤ count.toNat) (h8 : count.toNat ≤ 8)
    (hl : entries.length = 20 * count.toNat) (hn : first.toNat + count.toNat ≤ 32)
    (hp : ∀ a : AssocId, first.toNat ≤ a.val ∧ a.val < first.toNat + count.toNat →
      (policyOfOctets a (entryAt 20 entries (a.val - first.toNat))).isSome = true)
    (hw : s.writeEntries .assocConfig first.toNat count.toNat entries = (w, n)) :
    let named := (List.finRange 32).filter (fun a : AssocId =>
      decide (first.toNat ≤ a.val ∧ a.val < first.toNat + count.toNat))
    let answer := [0x83, tag, 0, 4, 0, 2, first, count, BitVec.ofNat 8 n]
    s.takeMessage (tableWriteMessage via tag 2 first count entries) =
      if Config.firstOrder w.free then (w.spendChoice.evaluateAll named).answeredWith answer false
      else (w.spendChoice.answeredWith answer false).evaluateAll named := by
  intro named answer
  have hlen : (tableWriteBody 2 first count entries).length ≤ 508 := by
    simp only [tableWriteBody, List.length_append, hl]
    simp
    omega
  have hnamed : TableId.assocConfig.writtenAssocs first.toNat count.toNat = named := if_pos rfl
  have hne : ¬named = [] := by
    have hb : first.toNat < 32 := by omega
    refine List.ne_nil_of_mem (a := ⟨first.toNat, hb⟩) (List.mem_filter.2 ⟨List.mem_finRange _, ?_⟩)
    simp
    omega
  have hbody : (messageOctets MessageKind.tableWrite.code tag (tableWriteBody 2 first count entries)).drop 8 = entries :=
    drop_messageOctets _ _ _ 4
  have ht : octetAt (messageOctets MessageKind.tableWrite.code tag (tableWriteBody 2 first count entries)) 4 = 2 :=
    octetAt_messageOctets_body _ _ _ 0
  have hf : octetAt (messageOctets MessageKind.tableWrite.code tag (tableWriteBody 2 first count entries)) 5 = first :=
    octetAt_messageOctets_body _ _ _ 1
  have hc : octetAt (messageOctets MessageKind.tableWrite.code tag (tableWriteBody 2 first count entries)) 6 = count :=
    octetAt_messageOctets_body _ _ _ 2
  have hreply (u : State) : u.reply (tableWriteMessage via tag 2 first count entries) .done
      [2, first, count, BitVec.ofNat 8 n] = u.answeredWith answer false := by
    rw [State.reply_eq, tableWriteMessage, octetAt_messageOctets_kind, octetAt_messageOctets_tag,
      answerOctets_short _ _ _ _ (by simp)]
    rfl
  rw [tableWriteMessage, State.takeMessage_spelled .tableWrite _ _ _ hlen hr
    (by simp [MessageKind.allowsLength, tableWriteBody]), State.handleMessage, State.takeTableWrite]
  simp only [hbody, ht, hf, hc, tableWriteCheck_policies h1 h8 hl hn hp, hw, hnamed, if_neg hne, State.choice]
  rw [← hreply, ← hreply]
  rfl

end Sys2Proof.Machine
end

section
/-! What a write to ASSOC_CONFIG answers and evaluates (R113, R164). -/

namespace Sys2Proof.Machine

/-- R113: a list of associations that are not renewal-due stops their timers. -/
theorem State.evaluateAll_none (s : State) {l : List AssocId} (hl : l.Nodup) (h : ∀ a ∈ l, (s.assoc a).isDue = false) :
    s.evaluateAll l =
      s.withAssocs (fun a => if a ∈ l then { s.assoc a with renewDeadline := none } else s.assoc a) := by
  have hsilent : l.flatMap (fun a => (s.assoc a).requests a true) = [] :=
    List.flatMap_eq_nil_iff.2 fun a ha => Assoc.requests_silent a (.inl (h a ha))
  have hrecords : (fun a : AssocId => if a ∈ l then (s.assoc a).evaluated s.now else s.assoc a) =
      fun a => if a ∈ l then { s.assoc a with renewDeadline := none } else s.assoc a := by
    funext a
    split
    · rename_i ha
      rw [Assoc.evaluated, h a ha]
      rfl
    · rfl
  rw [State.evaluateAll_eq s hl, hsilent, hrecords, List.take_nil, ite_self, List.append_nil]
  rfl

@[simp] theorem State.spendChoice_assoc (s : State) (a : AssocId) : s.spendChoice.assoc a = s.assoc a := rfl

/-- R158: an answer offered neither reads nor changes the association records. -/
theorem State.answeredWith_withAssocs (s : State) (f : AssocId → Assoc) (o : List Byte) (m : Bool) :
    (s.withAssocs f).answeredWith o m = (s.answeredWith o m).withAssocs f := by
  have stored (v : Vector Assoc 32) : ({ s with assocs := v } : State).answeredWith o m =
      { s.answeredWith o m with assocs := v } := by
    unfold State.answeredWith
    split <;> rfl
  exact stored _

/-- The records stored again, a free choice having been spent. -/
theorem State.withAssocs_spent (s : State) (f g : AssocId → Assoc) : (s.withAssocs f).spendChoice.withAssocs g =
    { s with free := s.free + 1, assocs := Vector.ofFn g } := by
  simp only [State.withAssocs, State.spendChoice]

@[simp] theorem State.answeredWith_assoc (s : State) (o : List Byte) (m : Bool) (a : AssocId) :
    (s.answeredWith o m).assoc a = s.assoc a := by
  unfold State.answeredWith
  split <;> rfl

/-- R158: an answer with control room. -/
theorem State.answeredWith_room {s : State} (o : List Byte) (m : Bool)
    (h : s.engine.outbound.length < 16 ∧ s.sendQueue.taken < 32) :
    s.answeredWith o m =
      (s.queued [{ assoc := 0, plaintext := o, restartMark := m, setsMark := true }]).modManagement
        (fun u => { u with answerOutstanding := true }) := if_pos h

/-- Settles O45: the policies as stored, and the two orders of the answer and the evaluation. -/
theorem policyWriteStoresAndEvaluates : Obligations.PolicyWriteStoresAndEvaluates := by
  unfold Obligations.PolicyWriteStoresAndEvaluates
  refine ⟨fun a e p => ?octets, fun s via tag first count entries h => ⟨?quiet, ?due⟩⟩
  case octets => simp only [policyOfOctets_eq_some, word32At_eq]
  case quiet =>
    intro p h1 h8 hl hn named hp written hdue
    obtain ⟨w, hw⟩ : ∃ w, w = s.withAssocs (s.policies p first.toNat count.toNat) := ⟨_, rfl⟩
    have ht := State.takeMessage_policies (via := via) (tag := tag) h.restart h1 h8 hl hn
      (fun a ha => Option.isSome_iff_exists.2 ⟨p a, hp a ha⟩) (hw ▸ s.writeEntries_policies entries p hn hp)
    extract_lets list answer at ht
    have hmem (a : AssocId) : a ∈ list ↔ named a := by simp [list, named]
    have hnd : list.Nodup := (List.nodup_finRange 32).filter _
    have hnamed (a : AssocId) (ha : named a) : s.policies p first.toNat count.toNat a = written a := if_pos ha
    have hquiet (u : State) (hu : u.assoc = s.policies p first.toNat count.toNat) : u.evaluateAll list =
        u.withAssocs (fun a => if named a then { written a with renewDeadline := none } else s.assoc a) := by
      rw [State.evaluateAll_none u hnd fun a ha => by rw [hu, hnamed a ((hmem a).1 ha)]; exact hdue a ((hmem a).1 ha)]
      refine congrArg u.withAssocs (funext fun a => ?_)
      rw [hu]
      by_cases ha : named a
      · rw [if_pos ((hmem a).2 ha), if_pos ha, hnamed a ha]
      · rw [if_neg (fun e => ha ((hmem a).1 e)), if_neg ha]
        exact if_neg ha
    have hassoc : w.spendChoice.assoc = s.policies p first.toNat count.toNat := by
      funext a
      rw [State.spendChoice_assoc, hw, State.withAssocs_assoc]
    have hend : s.takeMessage (tableWriteMessage via tag 2 first count entries) =
        (w.spendChoice.withAssocs
          (fun a => if named a then { written a with renewDeadline := none } else s.assoc a)).answeredWith answer false := by
      rw [ht]
      split
      · rw [hquiet w.spendChoice hassoc]
      · rw [hquiet (w.spendChoice.answeredWith answer false) (by funext a; rw [State.answeredWith_assoc, hassoc]),
          State.answeredWith_withAssocs]
    rw [hw, State.withAssocs_spent] at hend
    exact exec_answered rfl h.listening hend rfl rfl
  case due =>
    intro a p b hc hf hl hp q r hdue htimer hb ho hq request answer
    subst hc
    have hentry : entryAt 20 entries 0 = entries := by simp [entryAt, ← hl]
    have hnamed (c : AssocId) : (first.toNat ≤ c.val ∧ c.val < first.toNat + 1) ↔ c = a := by
      rw [Fin.ext_iff]
      omega
    have hpolicy (c : AssocId) (hca : c = a) : policyOfOctets c (entryAt 20 entries (c.val - first.toNat)) = some p := by
      rw [hca, hf, Nat.sub_self, hentry, hp]
    let n := if q = p then 0 else 1
    have hw : s.writeEntries .assocConfig first.toNat (1 : Byte).toNat entries = (s.setAssoc a r, n) := by
      have hstep : s.writeEntries .assocConfig first.toNat (1 : Byte).toNat entries =
          writePolicyEntry (s, 0) a.val (entryAt 20 entries 0) := by
        rw [← hf]
        rfl
      rw [hstep, hentry, writePolicyEntry_eq hp]
      rfl
    have ht := State.takeMessage_policies (via := via) (tag := tag) h.restart (by simp) (by simp) hl (by simp; omega)
      (fun c hc => Option.isSome_iff_exists.2 ⟨p, hpolicy c ((hnamed c).1 (by simpa using hc))⟩) hw
    extract_lets list octets at ht
    have hlist : list = [a] := by
      have hfilter : list = (List.finRange 32).filter (fun c => c == a) := by
        refine List.filter_congr fun c _ => ?_
        rw [Bool.eq_iff_iff, beq_iff_eq, decide_eq_true_eq]
        exact hnamed c
      rw [hfilter, List.filter_beq, List.count_eq_one_of_mem (List.nodup_finRange 32) (List.mem_finRange a)]
      rfl
    have hoctets : ({ assoc := 0, plaintext := octets, restartMark := false, setsMark := true } : OutItem) = answer := by
      have hn : BitVec.ofNat 8 n = if q = p then 0 else 1 := by
        simp only [n]
        split <;> rfl
      simp only [octets, answer, hn]
    have hrequests : r.requests a true = [request] := by
      rw [Assoc.requests, if_pos ⟨hdue, htimer, rfl⟩, hb]
      rfl
    have evaluates (u : State) (hroom : u.controlRoom = true) : (u.setAssoc a r).evaluateAll list =
        (u.queued [request]).setAssoc a (r.evaluated u.now) := by
      rw [hlist]
      show (u.setAssoc a r).evaluateDue a = _
      rw [State.evaluateDue_stored, hroom, hrequests]
    have hevaluated : r.evaluated s.now =
        { r with renewDeadline := some (s.time.seconds.toNat + q.renewInterval.toNat) } := by
      rw [Assoc.evaluated, hdue, htimer]
      rfl
    have hlong (i : OutItem) : (s.engine.outbound ++ [i]).length < 16 := by
      rw [List.length_append]
      exact Nat.lt_succ_of_le (Nat.succ_le_succ ho)
    have hroom : s.spendChoice.controlRoom = true := by
      rw [State.controlRoom, Bool.and_eq_true, decide_eq_true_eq, decide_eq_true_eq]
      exact ⟨Nat.lt_succ_of_le (Nat.le_succ_of_le ho), hq⟩
    refine exec_taken rfl h.listening (ht.trans ?_) rfl h.listening.busy.inbox
    show (if Config.firstOrder s.free then _ else _) = _
    split
    · rw [show (s.setAssoc a r).spendChoice = s.spendChoice.setAssoc a r from rfl, evaluates s.spendChoice hroom,
        State.answeredWith_room (s := (s.spendChoice.queued [request]).setAssoc a (r.evaluated s.spendChoice.now)) _ _
          ⟨hlong request, hq⟩,
        hoctets, show s.spendChoice.now = s.now from rfl, hevaluated]
      simp only [State.queued, State.modEngine, State.setAssoc_engine, List.append_assoc]
      rfl
    · rw [State.answeredWith_room (s := (s.setAssoc a r).spendChoice) _ _ ⟨Nat.lt_succ_of_le (Nat.le_succ_of_le ho), hq⟩,
        hoctets]
      let v : State := (s.spendChoice.queued [answer]).modManagement (fun u => { u with answerOutstanding := true })
      have hv : v.controlRoom = true := by
        rw [State.controlRoom, Bool.and_eq_true, decide_eq_true_eq, decide_eq_true_eq]
        exact ⟨hlong answer, hq⟩
      refine (evaluates v hv).trans ?_
      rw [show v.now = s.now from rfl, hevaluated]
      simp only [v, State.queued, State.modEngine, State.modManagement, List.append_assoc]
      rfl

end Sys2Proof.Machine
end

section
/-! The timers on the seconds count: drain, renew-request and inhibit (R15, R110, R114, R132, R172). -/

namespace Sys2Proof.Machine

/-! ## Expiries on the seconds count (R172) -/

/-- R172: an expiry that can come. -/
theorem State.event_expires {s : State} {d : Option Nat} {t : Nat} (f : State → State) (hr : s.power.running = true)
    (hd : d = some t) (hu : s.UnobstructedSecond t) : s.event (s.secondExpires d) f = .next (f s) := by
  rw [hd, State.event, hr, State.secondExpires_iff.2 hu]
  rfl

/-- R172: an expiry that comes too early. -/
theorem State.event_early {s : State} {d : Option Nat} {t : Nat} (f : State → State)
    (hd : d = some t) (hu : ¬s.UnobstructedSecond t) : s.event (s.secondExpires d) f = .next s := by
  have he : s.secondExpires (some t) = false := by rw [← Bool.not_eq_true, State.secondExpires_iff]; exact hu
  rw [hd, State.event, he, Bool.and_false]
  rfl

/-- R172: the count has come to the deadline of a timer that expires. -/
theorem State.UnobstructedSecond.reached {s : State} {t : Nat} (h : s.UnobstructedSecond t) : t ≤ (s.comesToSecond t).now := by
  unfold State.comesToSecond
  rcases h with h | ⟨h, hm, -⟩
  · rw [if_pos h]
    exact h
  · rw [if_neg (by omega)]
    have hlt := s.time.seconds.isLt
    have hne : s.time.seconds.toNat ≠ 4294967295 := fun e => hm (BitVec.eq_of_toNat_eq e)
    have hadd : (s.time.seconds + 1).toNat = s.time.seconds.toNat + 1 := by
      rw [BitVec.toNat_add]
      exact Nat.mod_eq_of_lt (by simp; omega)
    show t ≤ (s.time.seconds + 1).toNat
    omega

/-- R171: what the increase of the seconds count leaves. -/
theorem State.comesToSecond_frame (s : State) (t : Nat) :
    (s.comesToSecond t).assocs = s.assocs ∧ (s.comesToSecond t).engine = s.engine ∧
      (s.comesToSecond t).sendQueue = s.sendQueue ∧ (s.comesToSecond t).management = s.management ∧
      (s.comesToSecond t).monitors = s.monitors ∧ (s.comesToSecond t).stationCounters = s.stationCounters ∧
      (s.comesToSecond t).free = s.free := by
  unfold State.comesToSecond
  split <;> exact ⟨rfl, rfl, rfl, rfl, rfl, rfl, rfl⟩

/-! ## The expiries -/

theorem exec_drainDeadlineExpiry (a : AssocId) (b : BankId) (s : State) : exec (.drainDeadlineExpiry a b) s =
    s.event (s.secondExpires (s.drainDeadlineOf a b)) (fun s => (s.reachSecond (s.drainDeadlineOf a b)).drainExpiry a b) := rfl

theorem exec_renewRequestTimerExpiry (a : AssocId) (s : State) : exec (.renewRequestTimerExpiry a) s =
    s.event (s.secondExpires (s.assoc a).renewDeadline)
      (fun s => ((s.reachSecond (s.assoc a).renewDeadline).renewTimerExpires a).settle) := rfl

theorem exec_startupInhibitExpiry (m : MonitorId) (s : State) : exec (.startupInhibitExpiry m) s =
    s.event (s.secondExpires (s.inhibitDeadlineOf m)) (fun s => (s.reachSecond (s.inhibitDeadlineOf m)).inhibitExpires m) :=
  rfl

/-- R15, R110: the drain deadline of a bank at the state its expiry comes to. -/
theorem State.drainExpiry_reached {u : State} {a : AssocId} {b : BankId} {t : Nat} (hs : (u.bank a b).state = .draining)
    (hd : (u.bank a b).drainDeadline = some t) (ht : t ≤ u.now) :
    u.drainExpiry a b = { u with assocs := u.assocs.set a ((u.assoc a).setBank b (u.bank a b).drainExpires) } := by
  rw [State.drainExpiry, hd]
  exact if_pos ⟨hs, ht⟩

/-- R115: the octets of a RENEW_REQUEST. -/
theorem renewRequestOctets_eq (a : AssocId) (r : Assoc) (k : Bank) : renewRequestOctets a r k =
    [0x61, 0, 0, 20, BitVec.ofNat 8 a.val, r.state.code, reasonsOctet r.dueReasons, 0] ++ word 2 k.generation ++ [0, 0] ++
      word 4 k.wear ++ word 4 k.nextSequence ++ word 4 k.keyAge := by
  simp [renewRequestOctets, messageOctets_eq]

/-- R114: the expiry of a renew-request timer, at the state it comes to. -/
theorem State.renewTimerExpires_reached {u : State} {a : AssocId} {t : Nat} (hd : (u.assoc a).renewDeadline = some t)
    (ht : t ≤ u.now) :
    u.renewTimerExpires a =
      if (u.assoc a).isDue then (u.offerRenewRequest a).startRenewTimer a
      else u.setAssoc a { u.assoc a with renewDeadline := none } := by
  rw [State.renewTimerExpires, hd]
  exact (if_neg (Nat.not_lt.2 ht)).trans rfl

/-- R114: with control room a RENEW_REQUEST joins, without it none is made. -/
theorem State.offerRenewRequest_eq (u : State) (a : AssocId) : u.offerRenewRequest a =
    match (u.assoc a).activeBank with
    | none => u
    | some b => if u.controlRoom then u.queued [renewalItem a (u.assoc a) b] else u := rfl

theorem State.queued_startRenewTimer (u : State) (l : List OutItem) (a : AssocId) : (u.queued l).startRenewTimer a =
    (u.queued l).setAssoc a
      { u.assoc a with renewDeadline := some (u.now + (u.assoc a).policy.renewInterval.toNat) } := rfl

/-- Settles O55: each expiry at the state its deadline comes to. -/
theorem secondsTimersExpire : Obligations.SecondsTimersExpire := by
  unfold Obligations.SecondsTimersExpire
  refine ⟨?drain, ?renew, ?inhibit⟩
  case drain =>
    intro s a b t hr hs hd store
    have hdeadline : s.drainDeadlineOf a b = some t := (if_pos hs).trans hd
    obtain ⟨hassocs, -⟩ := s.comesToSecond_frame t
    have hbank : (s.comesToSecond t).bank a b = s.bank a b := by rw [State.bank, State.assoc_congr hassocs, State.bank]
    have expires (hu : s.UnobstructedSecond t) :
        exec (.drainDeadlineExpiry a b) s = .next (store (s.bank a b).drainExpires) := by
      rw [exec_drainDeadlineExpiry, State.event_expires _ hr hdeadline hu, hdeadline, State.reachSecond_eq_comesToSecond,
        State.drainExpiry_reached (by rw [hbank, hs]) (by rw [hbank, hd]) hu.reached, hassocs, State.assoc_congr hassocs, hbank]
    refine ⟨fun hu hi => ?_, fun hu hi => ?_, fun hu => ?_⟩
    · rw [expires hu, Bank.drainExpires, if_pos hi]
    · rw [expires hu, Bank.drainExpires, if_neg hi]
    · rw [exec_drainDeadlineExpiry, State.event_early _ hdeadline hu]
  case renew =>
    intro s a t h hd hu r u store next
    obtain ⟨hassocs, hengine, hplaces, hman, -⟩ :
        u.assocs = s.assocs ∧ u.engine = s.engine ∧ u.sendQueue = s.sendQueue ∧ u.management = s.management ∧ _ :=
      s.comesToSecond_frame t
    have hrecord : u.assoc a = r := State.assoc_congr hassocs a
    have hroom : u.controlRoom = s.controlRoom := by rw [State.controlRoom, State.controlRoom, hengine, hplaces]
    have hexpires : exec (.renewRequestTimerExpiry a) s = .next (u.renewTimerExpires a).settle := by
      rw [exec_renewRequestTimerExpiry, State.event_expires _ h.running hd hu, hd, State.reachSecond_eq_comesToSecond]
    have hreached := State.renewTimerExpires_reached (by rw [hrecord]; exact hd) hu.reached
    have ends {v : State} (e : u.renewTimerExpires a = v) (hk : v.engine.current = u.engine.current)
        (hi : v.management.inbox = u.management.inbox) : exec (.renewRequestTimerExpiry a) s = .next v := by
      rw [hexpires, e, State.settle_busy (by rw [hk, hengine, h.busy]) (by rw [hi, hman, h.inbox])]
    have hstored (d : Option Nat) : u.setAssoc a { r with renewDeadline := d } = store d := by
      rw [State.setAssoc, hassocs]
    refine ⟨fun hdue => ?_, fun hdue hfull => ?_, fun b hdue hb ho hq => ?_⟩
    · refine ends ?_ rfl rfl
      rw [hreached, hrecord, hdue]
      exact hstored none
    · refine ends ?_ rfl rfl
      have hno : u.controlRoom = false := by
        rw [hroom, State.controlRoom]
        rcases hfull with hf | hf <;> simp [Nat.not_lt.2 hf]
      have hsilent : u.offerRenewRequest a = u := by
        rw [State.offerRenewRequest_eq, hno]
        cases (u.assoc a).activeBank <;> rfl
      rw [hreached, hrecord, hdue, hsilent, ← hstored, State.startRenewTimer, State.modAssoc_eq_setAssoc, hrecord]
      rfl
    · have hyes : u.controlRoom = true := by rw [hroom, State.controlRoom]; simp [ho, hq]
      have hsends : u.offerRenewRequest a = u.queued [renewalItem a r b] := by
        rw [State.offerRenewRequest_eq, hyes, hrecord, hb]
        rfl
      refine ends ?_ (by rw [hengine]) rfl
      rw [hreached, hrecord, hdue, hsends, State.queued_startRenewTimer, hrecord]
      simp only [if_true, State.setAssoc, State.queued, State.modEngine, hengine, hassocs, renewalItem, renewRequestOctets_eq]
      rfl
  case inhibit =>
    intro s m hr hs r t u
    have hdeadline : s.inhibitDeadlineOf m = some t := if_pos hs
    obtain ⟨-, -, -, -, hmonitors, -⟩ := s.comesToSecond_frame t
    have hmonitor : u.monitor m = r := by rw [State.monitor, hmonitors]; rfl
    have hstart : r.config.startState = if r.config.sense = .rise then .clear else .arming := by
      rw [MonitorConfig.startState]
      cases r.config.sense <;> rfl
    refine ⟨fun hu => ?_, fun hu => by rw [exec_startupInhibitExpiry, State.event_early _ hdeadline hu]⟩
    rw [exec_startupInhibitExpiry, State.event_expires _ hr hdeadline hu, hdeadline, State.reachSecond_eq_comesToSecond,
      State.inhibitExpires, ← hstart, show (s.comesToSecond t).monitor m = r from hmonitor, if_pos ⟨hs, hu.reached⟩,
      State.setMonitor, hmonitors]
    rfl

end Sys2Proof.Machine
end

section
/-! A sample that fires or clears its monitor (R124, R134 to R137). -/

namespace Sys2Proof.Machine

/-! ## Reports and the association records -/

/-- R147: a send attempt neither reads nor changes the association records. -/
theorem State.attemptSend_assocs (s : State) (v : Vector Assoc 32) (n : Nat) :
    ({ s with assocs := v } : State).attemptSend n = { s.attemptSend n with assocs := v } := by
  induction n generalizing s with
  | zero => rfl
  | succ n ih =>
    unfold State.attemptSend
    cases hf : s.reports.records.find? (offerTest s.reports.records) with
    | none =>
      simp only
      rfl
    | some r =>
      simp only
      split
      · rfl
      · by_cases hc : s.controlRoom = true
        · rw [if_pos hc, if_pos (show ({ s with assocs := v } : State).controlRoom = true from hc)]
          exact ih (s.offerReport r)
        · rw [if_neg hc, if_neg (show ¬({ s with assocs := v } : State).controlRoom = true from hc)]
          rfl

/-- R144 to R146: the state a report leaves before the send attempt. -/
def State.reportPlaced (s : State) (p : Report) : State :=
  if s.reports.records.any (fun r => r.isUnsentOf p.kind p.source) then
    s.modReports (fun q =>
      { q with
        records := modifyFirst (fun r => r.isUnsentOf p.kind p.source) (fun r => r.fold p s.time.seconds) q.records })
  else if s.reports.records.length < 24 then s.modReports (fun q => q.create p s.time.seconds)
  else if lowSeverity s.reports.records < p.severity.toNat then
    s.countReportDrop.modReports (fun q => q.evict.create p s.time.seconds)
  else s.countReportDrop

theorem State.handReport_eq (s : State) (p : Report) : s.handReport p = (s.reportPlaced p).sendAttempt := by
  simp only [State.handReport, State.reportPlaced]
  split_ifs <;> rfl

/-- R144 to R149: a report handed over neither reads nor changes the association records. -/
theorem State.handReport_stored (s : State) (v : Vector Assoc 32) (p : Report) :
    ({ s with assocs := v } : State).handReport p = { s.handReport p with assocs := v } := by
  have placed : ({ s with assocs := v } : State).reportPlaced p = { s.reportPlaced p with assocs := v } := by
    simp only [State.reportPlaced]
    split_ifs <;> rfl
  rw [State.handReport_eq, State.handReport_eq, placed]
  exact (s.reportPlaced p).attemptSend_assocs v 5

/-! ## The action (R136) -/

/-- R7: a suspend request moves a LIVE association other than 0. -/
theorem State.suspendAssoc_eq (w : State) (a : AssocId) : w.suspendAssoc a =
    if (w.assoc a).state = .live ∧ a ≠ 0 then w.setAssoc a { w.assoc a with state := .suspended } else w := by
  rw [State.suspendAssoc, State.modAssoc_eq_setAssoc]
  split
  · rfl
  · exact w.setAssoc_self a

/-- R136: a RENEW action sets the flag of an association that is not VACANT. -/
theorem State.askRenewal_eq (w : State) (a : AssocId) : w.askRenewal a =
    if (w.assoc a).state = .vacant then w.evaluateDue a
    else (w.setAssoc a { w.assoc a with monitorRenewal := true }).evaluateDue a := by
  rw [State.askRenewal, State.modAssoc_eq_setAssoc]
  split
  · rw [State.setAssoc_self]
  · rfl

theorem State.Offering.refl (s : State) : s.Offering s := .of_frame rfl rfl rfl rfl

theorem State.Offering.evaluateDue (s : State) (a : AssocId) : s.Offering (s.evaluateDue a) := by
  rw [State.evaluateDue_eq]
  exact ⟨rfl, rfl, rfl, ⟨_, rfl⟩,
    fun ho i hi => (List.mem_append.1 hi).elim (ho i) (Assoc.requests_assoc _ _ _ i), rfl, rfl, rfl⟩

theorem State.Offering.runAction (s : State) (c : MonitorConfig) : s.Offering (s.runAction c) := by
  unfold State.runAction
  split
  · exact .refl s
  · exact State.Offering.trans (.setAssoc s _ _) (.evaluateDue _ _)
  · exact .setAssoc s _ _

/-- R135: a firing offers its report and what its action sends. -/
theorem State.Offering.fire (s : State) (m : MonitorId) (c : MonitorConfig) (v : W32) : s.Offering (s.fire m c v) := by
  have spent : s.Offering s.spendChoice := .of_frame rfl rfl rfl rfl
  unfold State.fire
  extract_lets report
  split
  · exact (spent.trans (.handReport _ _)).trans (.runAction _ _)
  · exact (spent.trans (.runAction _ _)).trans (.handReport _ _)

/-! ## The sample (R126, R134, R137) -/

/-- R126, R127: the record of a comparing sample with source value `c` and measured value `v`. -/
def Monitor.compared (r : Monitor) (c v : W32) (now : Nat) : Monitor :=
  { r with previous := c, baseline := true, nextSample := some (now + r.config.period.toNat), lastMeasured := v }

/-- R127: a sample that compares. -/
theorem Monitor.sample_eq {r : Monitor} (c : W32) (now : Nat) (h : r.baseline = true ∨ r.config.mode = .level) :
    r.sample c now =
      { r with previous := c, baseline := true, nextSample := some (now + r.config.period.toNat) }.compare
        (r.config.measure c (sampleDifference r.previous c)) := by
  refine if_neg ?_
  rintro ⟨hb, hm⟩
  rcases h with h | h
  · rw [h] at hb; cases hb
  · exact hm h

/-- R134: the comparing sample that completes the persistence. -/
theorem Monitor.sample_fires {r : Monitor} {c v : W32} {now count : Nat} (h : r.baseline = true ∨ r.config.mode = .level)
    (hv : r.config.measure c (sampleDifference r.previous c) = v) (hs : r.state = .clear ∨ r.state = .pending)
    (hc : (if r.state = .pending then r.persistenceCount else 0) = count) (hset : r.config.setHolds v = true)
    (hp : r.config.persistence.toNat ≤ count + 1) :
    r.sample c now = ({ r.compared c v now with state := .fired, persistenceCount := count + 1 }, .fired v) := by
  rw [Monitor.sample_eq c now h, hv]
  subst hc
  rcases hs with hs | hs
  · simp only [Monitor.compare, hs, Monitor.unfiredSample, hset, if_true]
    rw [if_neg (by simp [hs])] at hp ⊢
    exact if_pos hp
  · simp only [Monitor.compare, hs, Monitor.unfiredSample, hset, if_true]
    rw [if_pos hs] at hp
    exact if_pos hp

/-- R137: the comparing sample that clears a FIRED monitor without a latch. -/
theorem Monitor.sample_clears {r : Monitor} {c v : W32} {now : Nat} (h : r.baseline = true ∨ r.config.mode = .level)
    (hv : r.config.measure c (sampleDifference r.previous c) = v) (hs : r.state = .fired) (hl : r.config.latch = .none)
    (hclear : r.config.clearHolds v = true) :
    r.sample c now = ({ r.compared c v now with state := .clear, persistenceCount := 0 }, .cleared v) := by
  rw [Monitor.sample_eq c now h, hv]
  simp only [Monitor.compare, hs, Monitor.firedSample, hl, hclear, if_true]
  rfl

/-- R124: a source reads the counters and the association records. -/
theorem State.sourceValue_congr {s u : State} (c : MonitorConfig) (ha : u.assocs = s.assocs)
    (hn : u.stationCounters = s.stationCounters) : u.sourceValue c = s.sourceValue c := by
  unfold State.sourceValue State.stationCount State.assocCount
  simp only [State.assoc_congr ha, hn]

theorem exec_monitorSample (m : MonitorId) (s : State) : exec (.monitorSample m) s =
    s.event (s.secondExpires (s.sampleDeadlineOf m))
      (fun s => ((s.reachSecond (s.sampleDeadlineOf m)).takeSample m).settle) := rfl

/-- R126: a sample of a monitor whose period ends, taken at the state its deadline comes to. -/
theorem State.takeSample_reached {u : State} {m : MonitorId} {t : Nat} (hs : (u.monitor m).state.samples = true)
    (hn : (u.monitor m).nextSample = some t) (ht : t ≤ u.now) :
    u.takeSample m =
      (u.setMonitor m ((u.monitor m).sample (u.sourceValue (u.monitor m).config) u.now).1).sampleEffect m
        (u.monitor m).config ((u.monitor m).sample (u.sourceValue (u.monitor m).config) u.now).2 := by
  have hdue : u.sampleDue m = true := by simp [State.sampleDue, hs, hn, ht]
  exact if_pos hdue

/-- Settles O57: the sample by its monitor's state, a firing by its action. -/
theorem sampleFiresAndClears : Obligations.SampleFiresAndClears := by
  unfold Obligations.SampleFiresAndClears
  intro s m t h hn hu u r c d v compared count a report renewal hcompares
  obtain ⟨hassocs, hengine, -, hman, hmonitors, hcounters, hfree⟩ :
      u.assocs = s.assocs ∧ u.engine = s.engine ∧ _ ∧ u.management = s.management ∧ u.monitors = s.monitors ∧
        u.stationCounters = s.stationCounters ∧ u.free = s.free := s.comesToSecond_frame t
  have hmonitor : u.monitor m = r := by rw [State.monitor, hmonitors]; rfl
  have hsource : u.sourceValue r.config = c := State.sourceValue_congr _ hassocs hcounters
  have sampled {r' : Monitor} {e : SampleEffect} {w : State} (hs : r.state.samples = true)
      (hr' : r.sample c u.now = (r', e))
      (hw : ({ u with monitors := s.monitors.set m r' } : State).sampleEffect m r.config e = w)
      (ho : ({ u with monitors := s.monitors.set m r' } : State).Offering w) :
      exec (.monitorSample m) s = .next w := by
    have hdeadline : s.sampleDeadlineOf m = some t := (if_pos hs).trans hn
    rw [exec_monitorSample, State.event_expires _ h.running hdeadline hu, hdeadline, State.reachSecond_eq_comesToSecond,
      State.takeSample_reached (by rw [hmonitor]; exact hs) (by rw [hmonitor]; exact hn) hu.reached, hmonitor, hsource, hr',
      State.setMonitor, hmonitors]
    rw [show ({ s.comesToSecond t with monitors := s.monitors.set m r' } : State).sampleEffect m r.config e = w from hw]
    rw [State.settle_busy (by rw [ho.current]; exact hengine ▸ h.busy) (by rw [ho.inbox]; exact hman ▸ h.inbox)]
  refine ⟨fun hs hset hp => ?fires, fun hs hl hclear => ?clears⟩
  case clears =>
    refine sampled (by rw [hs]; rfl) (Monitor.sample_clears hcompares rfl hs hl hclear) rfl ?_
    exact .handReport _ _
  case fires =>
    intro fired
    have hsamples : r.state.samples = true := by rcases hs with hs | hs <;> rw [hs] <;> rfl
    let w : State := { u with monitors := s.monitors.set m { compared with state := .fired, persistenceCount := count + 1 } }
    have hfires : exec (.monitorSample m) s = .next (w.fire m r.config v) :=
      sampled hsamples (Monitor.sample_fires hcompares rfl hs rfl hset hp) rfl (.fire w m r.config v)
    have hspent : w.spendChoice = fired := by
      show ({ w with free := u.free + 1 } : State) = _
      rw [hfree]
    have hchoice : w.choice = Config.firstOrder s.free := by
      show Config.firstOrder u.free = _
      rw [hfree]
    have hfire : w.fire m r.config v =
        if Config.firstOrder s.free then (fired.handReport (report .monitorFired r.config.severity)).runAction r.config
        else (fired.runAction r.config).handReport (report .monitorFired r.config.severity) := by
      rw [State.fire, hchoice, hspent]
    have hrecord : fired.assoc a = s.assoc a := State.assoc_congr hassocs a
    have suspends (x : State) : r.config.action = .suspend → x.runAction r.config = x.suspendAssoc a := fun e => by
      rw [State.runAction, e]
    rw [hfires, hfire]
    refine ⟨fun hact => ?_, fun hact h0 hl => ?_, fun hact => ?_⟩
    · have idle (x : State) (hx : x.assoc a = s.assoc a) : x.runAction r.config = x := by
        rcases hact with e | ⟨e, hno⟩
        · rw [State.runAction, e]
        · rw [suspends x e, State.suspendAssoc_eq, if_neg]
          rw [hx]
          rintro ⟨hl, h0⟩
          exact hno.elim h0 (fun k => k hl)
      rw [idle fired hrecord, idle _ ((State.handReport_assoc _ _ a).trans hrecord), ite_self]
    · have moves (x : State) (hx : x.assoc a = s.assoc a) : x.runAction r.config =
          x.setAssoc a { s.assoc a with state := .suspended } := by
        rw [suspends x hact, State.suspendAssoc_eq, hx, if_pos ⟨hl, h0⟩]
      have hvec : fired.assocs = s.assocs := hassocs
      rw [moves fired hrecord, moves _ ((State.handReport_assoc _ _ a).trans hrecord), State.setAssoc, State.setAssoc,
        State.handReport_assocs, hvec, State.handReport_stored, ite_self]
    · have renews (x : State) : x.runAction r.config = renewal x := by
        rw [State.runAction, hact]
        exact x.askRenewal_eq a
      rw [renews, renews]

end Sys2Proof.Machine
end

section
/-! Start-up, completed or abandoned (R9, R155, R173 to R176). -/

namespace Sys2Proof.Machine

/-! ## The RESTART report (R155) -/

/-- The blocks that a start-up's report and its message meet, as after reset. -/
structure State.Booted (s : State) : Prop where
  time : s.time = { milliseconds := 0, seconds := 0, storeWaits := false }
  engine : s.engine = defaultEngine
  sendQueue : s.sendQueue = defaultSendQueue
  reports : s.reports = defaultReports
  management : s.management = defaultManagement

theorem State.bootSteps_booted (s : State) (straps : BitVec 3) (pace : Pace) : (s.bootSteps straps pace).Booted :=
  ⟨by simp only [State.bootSteps]; rfl, by simp only [State.bootSteps]; rfl, by simp only [State.bootSteps]; rfl,
    by simp only [State.bootSteps]; rfl, by simp only [State.bootSteps]; rfl⟩

/-- R148, R155: the octets of the RESTART report. -/
def restartOctets (cause : ResetCause) : List Byte :=
  [0x60, 0, 0, 24, 0, 1, 1, 2, 0xFF, 0, 0, 0, 0, 1, 0, 0, 0, 0, 0, 0, 0, 0, 0, 0, 0, 0, 0, cause.code]

def restartItem (cause : ResetCause) : OutItem :=
  { assoc := 0, plaintext := restartOctets cause, restartMark := false, setsMark := false }

/-- R146, R148, R155: the Fault Report Queue once the RESTART report has been offered. -/
def restartReports (cause : ResetCause) : ReportQueue :=
  { defaultReports with
    records :=
      [{ number := 1, kind := .restart, severity := 2, source := .absent, firstTime := 0, lastTime := 0
         occurrences := 1, value := some (cause.code.zeroExtend 32), state := .inFlight
         ackDeadline := some 2000, resendCount := 0 }]
    nextNumber := 2
    pacingDeadline := some 100 }

/-- R147: an attempt whose conditions hold offers the chosen record. -/
theorem State.attemptSend_offers {s : State} {r : ReportRecord} (n : Nat)
    (hf : s.reports.records.find? (offerTest s.reports.records) = some r) (h4 : inFlightCount s.reports.records < 4)
    (hp : s.reports.pacingDeadline = none) (hc : s.controlRoom = true) :
    s.attemptSend (n + 1) = (s.offerReport r).attemptSend n := by
  rw [State.attemptSend, hf]
  have hn : ¬(4 ≤ inFlightCount s.reports.records ∨ s.reports.pacingDeadline.isSome = true) := by
    rw [hp, not_or]
    exact ⟨Nat.not_le.2 h4, by simp⟩
  exact (if_neg hn).trans (if_pos hc)

/-- R147: an attempt with no UNSENT record ends the retry timer. -/
theorem State.attemptSend_none {s : State} (n : Nat)
    (hf : s.reports.records.find? (offerTest s.reports.records) = none) :
    s.attemptSend (n + 1) = s.modReports (fun q => { q with retryDeadline := none }) := by
  rw [State.attemptSend, hf]

/-- R146, R155: the record of the RESTART report. -/
theorem State.restart_placed {s : State} (cause : ResetCause) (hr : s.reports = defaultReports) (ht : s.time.seconds = 0) :
    s.reportPlaced (restartReport cause) =
      { s with reports := { defaultReports with records := [newRecord (restartReport cause) 1 0], nextNumber := 2 } } := by
  have hnone : ¬(defaultReports.records.any
      (fun r => r.isUnsentOf (restartReport cause).kind (restartReport cause).source) = true) := Bool.false_ne_true
  have hroom : defaultReports.records.length < 24 := by decide
  rw [State.reportPlaced, hr, ht, if_neg hnone, if_pos hroom, State.modReports, hr]
  rfl

theorem restart_octets (cause : ResetCause) :
    faultReportOctets (newRecord (restartReport cause) 1 0) 0 = restartOctets cause := by
  cases cause <;> decide

/-- R147, R148, R155: the RESTART report is offered at once. -/
theorem State.Booted.handReport {s : State} (h : s.Booted) (cause : ResetCause) :
    s.handReport (restartReport cause) =
      { s with
        reports := restartReports cause, engine := { defaultEngine with outbound := [restartItem cause] } } := by
  let u : State :=
    { s with reports := { defaultReports with records := [newRecord (restartReport cause) 1 0], nextNumber := 2 } }
  have hroom : u.controlRoom = true := by
    show (decide (s.engine.outbound.length < 16) && decide (s.sendQueue.taken < 32)) = true
    rw [h.engine, h.sendQueue]
    rfl
  have hoffer : u.offerReport (newRecord (restartReport cause) 1 0) =
      { s with
        reports := restartReports cause, engine := { defaultEngine with outbound := [restartItem cause] } } := by
    unfold State.offerReport
    extract_lets ms set
    have hms : ms = 0 := by simp only [ms, u, h.time]
    have hset : set = defaultSettings := by simp only [set, u, h.management]; rfl
    rw [hms, hset, State.modReports, State.joinOutbound, State.modEngine]
    have he : u.engine = defaultEngine := h.engine
    have hd : u.reports.dropped = 0 := rfl
    rw [he, hd, restart_octets]
    rfl
  rw [State.handReport_eq, State.restart_placed cause h.reports (by rw [h.time])]
  show u.attemptSend 5 = _
  rw [State.attemptSend_offers (s := u) 4 rfl (Nat.zero_lt_succ 3) rfl hroom, hoffer, State.attemptSend_none 3 rfl]
  rfl

/-! ## The message at the engine (R9, R49, R50) -/

/-- R43, R49: after a start-up the engine takes the report's message, and nothing else waits. -/
theorem State.Booted.serves {s : State} (h : s.Booted) (cause : ResetCause) :
    let t : State := { s with
      reports := restartReports cause, engine := { defaultEngine with outbound := [restartItem cause] } }
    t.canTake = false ∧ t.arbiterChoice = some .outbound ∧
      t.serve .outbound = ({ s with reports := restartReports cause } : State).admitOutbound (restartItem cause) := by
  obtain ⟨pending, free, power, time, provisioning, identity, assocs, counters, shop, flow, engine, sendQueue, access,
    receiver, monitors, reports, management⟩ := s
  obtain ⟨htime, hengine, hqueue, hreports, hmanagement⟩ := h
  simp only at htime hengine hqueue hreports hmanagement
  subst htime hengine hqueue hreports hmanagement
  exact ⟨rfl, rfl, rfl⟩

/-- R9: association 0 with the boot key. -/
def liveBoot (g : W16) (key : Key) : Assoc :=
  { defaultAssoc 0 with state := .live, bankA := installedBank .active g key }

/-- R9, R50: association 0 with the RESTART report's item bound to the boot key. -/
def reportingBoot (g : W16) (key : Key) : Assoc :=
  { defaultAssoc 0 with
    state := .live, inFlight := 1
    bankA := { installedBank .active g key with wear := 6, nextSequence := 2, inUse := 1 } }

theorem liveBoot_banksInOrder (g : W16) (key : Key) : (liveBoot g key).BanksInOrder :=
  ⟨fun _ => rfl, fun e => (nomatch e), fun e => (nomatch e.1)⟩

/-- R112: no reason holds of the boot key with its first item. -/
theorem reportingBoot_isDue (g : W16) (key : Key) : (reportingBoot g key).isDue = false := rfl

/-- R9, R50, R155: the RESTART report at the engine, sequence 1 under the boot key, with its place reserved. -/
def State.reportSent (s : State) (cause : ResetCause) (g : W16) (key : Key) : State :=
  { s with
    reports := restartReports cause
    engine := { defaultEngine with
      current := some (.outbound 0 .bankA .control
        (sealFrame key s.identity.station 0 g 1 false (restartOctets cause))) }
    sendQueue := { defaultSendQueue with reserved := [{ place := .control, restartMark := false }] }
    assocs := s.assocs.set 0 (reportingBoot g key) }

@[simp] theorem State.assoc_reportSent (b : State) (cause : ResetCause) (g : W16) (key : Key) :
    (b.reportSent cause g key).assoc 0 = reportingBoot g key := by
  simp [State.reportSent, State.assoc]

theorem State.current_reportSent (b : State) (cause : ResetCause) (g : W16) (key : Key) :
    (b.reportSent cause g key).engine.current = some (.outbound 0 .bankA .control
      (sealFrame key b.identity.station 0 g 1 false (restartOctets cause))) := rfl

/-- R113: an evaluation that finds a sound record not due changes nothing. -/
theorem State.evaluateDue_idle {s : State} {a : AssocId} {r : Assoc} (hr : s.assoc a = r) (hd : r.isDue = false)
    (ht : r.renewDeadline = none) : s.evaluateDue a = s := by
  have hsame : r.evaluated s.now = r := by
    simp only [Assoc.evaluated, hd, Bool.false_eq_true, if_false]
    rw [← ht]
  subst hr
  conv_lhs => rw [← s.setAssoc_self a]
  rw [State.evaluateDue_stored, hsame, Assoc.requests_silent a (.inl hd), State.queued_nil, State.setAssoc_self]

/-- R50: the RESTART report passes its admission under the boot key. -/
theorem State.Booted.admits {s : State} (h : s.Booted) (cause : ResetCause) {g : W16} {key : Key}
    (ha : s.assoc 0 = liveBoot g key) :
    ({ s with reports := restartReports cause } : State).admitOutbound (restartItem cause) =
      s.reportSent cause g key := by
  let v : State := { s with reports := restartReports cause }
  have hv : v.assoc (restartItem cause).assoc = liveBoot g key := ha
  have hcost : frameCost (restartItem cause).plaintext.length = 6 := by
    show frameCost 28 = 6
    decide
  have hroom : ((liveBoot g key).bank .bankA).nextSequence ≠ 4294967295 ∧
      ((liveBoot g key).bank .bankA).wear.toNat + frameCost (restartItem cause).plaintext.length ≤
        (liveBoot g key).policy.hardLimit.toNat := by
    have hwear : (0 : W32).toNat + 6 ≤ (defaultAssoc 0).policy.hardLimit.toNat := by decide
    rw [hcost]
    exact ⟨fun e => absurd e (by decide : (1 : W32) ≠ 4294967295), hwear⟩
  have hbound : v.bindOutbound (restartItem cause) .bankA = (s.reportSent cause g key).evaluateDue 0 := by
    have he : v.engine = defaultEngine := h.engine
    have hq : v.sendQueue = defaultSendQueue := h.sendQueue
    rw [State.bindOutbound_eq, hv, hcost, he, hq]
    rfl
  calc v.admitOutbound (restartItem cause)
      = v.bindOutbound (restartItem cause) .bankA := by
        rw [State.admitOutbound_sends (b := .bankA) (hv ▸ liveBoot_banksInOrder g key) (by rw [hv]; rfl) (by rw [hv]; rfl)
          (by rw [hv]; exact fun e => (nomatch e)), hv, if_pos hroom]
    _ = s.reportSent cause g key := by
        rw [hbound, State.evaluateDue_idle (State.assoc_reportSent ..) (reportingBoot_isDue g key) rfl]

/-- R9, R155: a start-up with a boot key ends with the RESTART report at the engine. -/
theorem State.Booted.reports_live {s : State} (h : s.Booted) (cause : ResetCause) {g : W16} {key : Key}
    (ha : s.assoc 0 = liveBoot g key) :
    (s.handReport (restartReport cause)).settle = s.reportSent cause g key := by
  obtain ⟨htake, hchoice, hserve⟩ := h.serves cause
  have hinbox : (s.reportSent cause g key).management.inbox = [] := congrArg Management.inbox h.management
  rw [h.handReport, State.settle_serve htake hchoice] <;> rw [hserve, h.admits cause ha]
  · exact State.canTake_empty hinbox
  · exact State.arbiterChoice_busy rfl

/-- R9: association 0 with the boot epoch spent. -/
def pendingBoot : Assoc := { defaultAssoc 0 with state := .pending }

/-- R9, R49: association 0 with the boot epoch spent and the RESTART report refused. -/
def refusingBoot : Assoc :=
  { pendingBoot with counters := pendingBoot.counters.set AssocCounter.stateDrop.index 1 }

/-- R9, R49, R155: the RESTART report refused. -/
def State.reportRefused (s : State) (cause : ResetCause) : State :=
  { s with reports := restartReports cause, assocs := s.assocs.set 0 refusingBoot }

@[simp] theorem State.assoc_reportRefused (b : State) (cause : ResetCause) :
    (b.reportRefused cause).assoc 0 = refusingBoot := by
  simp [State.reportRefused, State.assoc]

/-- R9, R155: a start-up with the boot epoch spent ends with the RESTART report refused. -/
theorem State.Booted.reports_pending {s : State} (h : s.Booted) (cause : ResetCause) (ha : s.assoc 0 = pendingBoot) :
    (s.handReport (restartReport cause)).settle = s.reportRefused cause := by
  obtain ⟨htake, hchoice, hserve⟩ := h.serves cause
  let v : State := { s with reports := restartReports cause }
  have hv : v.assoc (restartItem cause).assoc = pendingBoot := ha
  have hrefused : v.admitOutbound (restartItem cause) = s.reportRefused cause := by
    rw [State.admitOutbound_dropped (.inl (by rw [hv]; exact fun e => (nomatch e))), State.countAssoc,
      State.modAssoc, hv, State.setAssoc]
    rfl
  have hinbox : (s.reportRefused cause).management.inbox = [] := congrArg Management.inbox h.management
  have hengine : (s.reportRefused cause).engine = defaultEngine := h.engine
  rw [h.handReport, State.settle_serve htake hchoice] <;> rw [hserve, hrefused]
  · exact State.canTake_empty hinbox
  · exact State.arbiterChoice_empty (by rw [hengine]; rfl) (by rw [hengine]; rfl) (by rw [hengine]; rfl)

/-! ## What a completed start-up leaves (R174) -/

/-- What the RESTART report leaves of the state `b` that the first eight steps of start-up built. -/
structure State.ReportedFrom (b t : State) (cause : ResetCause) : Prop where
  power : t.power = b.power
  identity : t.identity = b.identity
  time : t.time = b.time
  provisioning : t.provisioning = b.provisioning
  others : ∀ a, a ≠ 0 → t.assoc a = b.assoc a
  flow : t.flow = b.flow
  monitors : t.monitors = b.monitors
  management : t.management = b.management
  receiver : t.receiver = b.receiver
  stationCounters : t.stationCounters = b.stationCounters
  access : t.access = b.access
  shop : t.shop = b.shop
  outbound : t.engine.outbound = []
  inbound : t.engine.inbound = []
  unwrap : t.engine.unwrap = []
  lastServed : t.engine.lastServed = .outbound
  reports : t.reports = restartReports cause

theorem State.assoc_set_other {s t : State} {r : Assoc} (h : t.assocs = s.assocs.set 0 r) {a : AssocId} (ha : a ≠ 0) :
    t.assoc a = s.assoc a := by
  rw [State.assoc_congr (s := s.setAssoc 0 r) h a, State.assoc_setAssoc, if_neg ha]

theorem State.reportSent_from (b : State) (cause : ResetCause) (g : W16) (key : Key) :
    b.ReportedFrom (b.reportSent cause g key) cause where
  power := rfl
  identity := rfl
  time := rfl
  provisioning := rfl
  others _ ha := State.assoc_set_other (r := reportingBoot g key) rfl ha
  flow := rfl
  monitors := rfl
  management := rfl
  receiver := rfl
  stationCounters := rfl
  access := rfl
  shop := rfl
  outbound := rfl
  inbound := rfl
  unwrap := rfl
  lastServed := rfl
  reports := rfl

theorem State.Booted.reportRefused_from {b : State} (h : b.Booted) (cause : ResetCause) :
    b.ReportedFrom (b.reportRefused cause) cause where
  power := rfl
  identity := rfl
  time := rfl
  provisioning := rfl
  others _ ha := State.assoc_set_other (r := refusingBoot) rfl ha
  flow := rfl
  monitors := rfl
  management := rfl
  receiver := rfl
  stationCounters := rfl
  access := rfl
  shop := rfl
  outbound := congrArg Engine.outbound h.engine
  inbound := congrArg Engine.inbound h.engine
  unwrap := congrArg Engine.unwrap h.engine
  lastServed := congrArg Engine.lastServed h.engine
  reports := rfl

theorem State.assoc_reset (a : AssocId) : State.reset.assoc a = defaultAssoc a := by simp [State.assoc, State.reset]

theorem Provisioning.spent_iff (p : Provisioning) : p.spent = true ↔ 65534 ≤ p.epoch.toNat := by
  simp [Provisioning.spent]

/-- R175: the one write of the epoch. -/
theorem Provisioning.advance_unspent {p : Provisioning} (h : p.epoch.toNat < 65534) :
    p.advance = { p with epoch := p.epoch + 1 } :=
  if_neg (fun hs => absurd (p.spent_iff.1 hs) (Nat.not_le.2 h))

/-- R175: a spent epoch is not written. -/
theorem Provisioning.advance_spent {p : Provisioning} (h : 65534 ≤ p.epoch.toNat) : p.advance = p :=
  if_pos (p.spent_iff.2 h)

theorem Provisioning.advance_keeps (p : Provisioning) :
    p.advance.serial = p.serial ∧ p.advance.provisioningKey = p.provisioningKey := by
  unfold Provisioning.advance
  split <;> exact ⟨rfl, rfl⟩

/-- R9: association 0 before the RESTART report. -/
theorem State.bootSteps_management (s : State) (straps : BitVec 3) (pace : Pace) :
    (s.bootSteps straps pace).assoc 0 =
      if s.provisioning.spent then pendingBoot
      else liveBoot s.provisioning.advance.epoch (bootKey s.provisioning s.provisioning.advance.epoch) :=
  s.assoc_bootSteps straps pace 0

/-- R155, R174: a completed start-up, by whether the boot epoch is spent. -/
theorem State.completeStartUp_eq (s : State) (straps : BitVec 3) (pace : Pace) :
    s.completeStartUp straps pace =
      if s.provisioning.spent then (s.bootSteps straps pace).reportRefused s.power.cause
      else (s.bootSteps straps pace).reportSent s.power.cause s.provisioning.advance.epoch
        (bootKey s.provisioning s.provisioning.advance.epoch) := by
  have hb := s.bootSteps_booted straps pace
  have hm := s.bootSteps_management straps pace
  rw [State.completeStartUp]
  split
  · next hs => exact hb.reports_pending _ (by rw [hm, if_pos hs])
  · next hs => exact hb.reports_live _ (by rw [hm, if_neg hs])

theorem State.completeStartUp_from (s : State) (straps : BitVec 3) (pace : Pace) :
    (s.bootSteps straps pace).ReportedFrom (s.completeStartUp straps pace) s.power.cause := by
  rw [State.completeStartUp_eq]
  split
  · exact (s.bootSteps_booted straps pace).reportRefused_from _
  · exact State.reportSent_from ..

/-- R173: START_UP on a held part with no reset condition present. -/
theorem State.exec_startUp {s : State} (straps : BitVec 3) (pace : Pace) (o : StartUpOutcome)
    (hr : s.power.running = false) (hp : s.power.anyPresent = false) :
    exec (.startUp straps pace o) s = .next (s.startUp straps pace o) := by
  have hdue : s.startUpDue = true := by simp [State.startUpDue, hr, hp]
  show execStartUp straps pace o s = _
  rw [execStartUp, if_pos hdue]

/-- R173, R174: what the first eight steps of start-up build, block by block, besides those of `State.Booted`. -/
structure State.BuiltFrom (s b : State) (straps : BitVec 3) (pace : Pace) : Prop where
  power : b.power = { s.power with running := true }
  identity : b.identity = { station := straps, cause := s.power.cause }
  provisioning : b.provisioning = s.provisioning.advance
  flow : b.flow = State.reset.flow
  monitors : b.monitors = State.reset.monitors
  receiver : b.receiver = State.reset.receiver
  stationCounters : b.stationCounters = State.reset.stationCounters
  access : b.access = { State.reset.access with pace := pace }
  shop : b.shop = { State.reset.shop with macReady := s.shop.macReady }

theorem State.bootSteps_built (s : State) (straps : BitVec 3) (pace : Pace) :
    s.BuiltFrom (s.bootSteps straps pace) straps pace := by
  constructor <;> simp only [State.bootSteps, State.setAssoc, State.blocksAfterReset, State.reset] <;> rfl

/-! ## An abandoned start-up (R173, R175) -/

/-- R173, R175: a start-up that a reset condition abandons, before or after the write of the epoch. -/
theorem State.startUp_abandoned (s : State) (c : ResetCondition) (p : Provisioning) :
    ({ s with provisioning := p } : State).conditionArises c = { s.conditionArises c with provisioning := p } ∧
      (s.conditionArises c).provisioning = s.provisioning ∧ (s.conditionArises c).power.running = false ∧
      (s.conditionArises c).power.isPresent c = true ∧ (s.conditionArises c).identity = s.identity ∧
      (s.conditionArises c).assocs = State.reset.assocs := by
  simp only [State.conditionArises, State.heldInReset, State.blocksAfterReset, State.reset]
  refine ⟨trivial, trivial, trivial, ?_, trivial, trivial⟩
  cases c <;> rfl

/-- Settles O53: the blocks of the first eight steps, and the RESTART report under the boot key or refused. -/
theorem startUpCompletesOrIsAbandoned : Obligations.StartUpCompletesOrIsAbandoned := by
  unfold Obligations.StartUpCompletesOrIsAbandoned
  refine ⟨?completed, ?abandoned⟩
  case completed =>
    intro s straps pace hr hp report
    have hfrom := s.completeStartUp_from straps pace
    have hbuilt := s.bootSteps_built straps pace
    have hbooted := s.bootSteps_booted straps pace
    obtain ⟨hserial, hkey⟩ := s.provisioning.advance_keeps
    have hprov := hfrom.provisioning.trans hbuilt.provisioning
    have heq := s.completeStartUp_eq straps pace
    have hothers (a : AssocId) (ha : a ≠ 0) : (s.completeStartUp straps pace).assoc a = State.reset.assoc a := by
      rw [hfrom.others a ha, State.assoc_bootSteps, if_neg ha, State.assoc_reset]
    refine ⟨s.completeStartUp straps pace, State.exec_startUp straps pace .completed hr hp, hfrom.power.trans hbuilt.power,
      hfrom.identity.trans hbuilt.identity, hfrom.time.trans hbooted.time, (congrArg Provisioning.serial hprov).trans hserial,
      (congrArg Provisioning.provisioningKey hprov).trans hkey, hothers, hfrom.flow.trans hbuilt.flow,
      hfrom.monitors.trans hbuilt.monitors, hfrom.management.trans hbooted.management, hfrom.receiver.trans hbuilt.receiver,
      hfrom.stationCounters.trans hbuilt.stationCounters, hfrom.access.trans hbuilt.access, hfrom.shop.trans hbuilt.shop,
      hfrom.outbound, hfrom.inbound, hfrom.unwrap, hfrom.lastServed, hfrom.reports, ?unspent, ?spent⟩
    case unspent =>
      intro hlt
      have hepoch : s.provisioning.advance.epoch = s.provisioning.epoch + 1 := by
        rw [Provisioning.advance_unspent hlt]
      rw [if_neg (fun hs => Nat.not_le.2 hlt (s.provisioning.spent_iff.1 hs)), hepoch] at heq
      refine ⟨(congrArg Provisioning.epoch hprov).trans hepoch, ?_⟩
      rw [heq, State.assoc_reportSent, State.assoc_reset]
      refine ⟨rfl, ?_, rfl⟩
      rw [State.current_reportSent, hbuilt.identity]
      rfl
    case spent =>
      intro hle
      rw [if_pos (s.provisioning.spent_iff.2 hle)] at heq
      refine ⟨hprov.trans (Provisioning.advance_spent hle), ?_⟩
      rw [heq, State.assoc_reportRefused, State.assoc_reset]
      exact ⟨congrArg Engine.current hbooted.engine, hbooted.sendQueue, rfl⟩
  case abandoned =>
    intro s straps pace c hr hp
    obtain ⟨hafter, hprov, hrun, hpresent, hidentity, hassocs⟩ := s.startUp_abandoned c s.provisioning.advance
    refine ⟨_, _, State.exec_startUp straps pace _ hr hp, State.exec_startUp straps pace _ hr hp, hprov,
      fun hlt => ?_, fun hle => ?_, hafter, hrun, hpresent, hidentity, hassocs⟩
    · exact (congrArg State.provisioning hafter).trans (Provisioning.advance_unspent hlt)
    · exact (congrArg State.provisioning hafter).trans (Provisioning.advance_spent hle)

end Sys2Proof.Machine
end

section
/-! The capacities of the queues and buffers, and law 7 (R32, R35, R38 to R40, R68, R79, R141, R157). -/

namespace Sys2Proof.Machine

/-! ## What the queues and buffers hold -/

/-- The numbers that the capacities and law 7 bound. An operation that changes none of them keeps this record by
definition. -/
structure Loads where
  inbox : Nat
  delivery : Nat
  outbound : Nat
  inbound : Nat
  unwrap : Nat
  staging : Nat
  places : Nat
  trafficPlaces : Nat
  reports : Nat

/-- What a state's queues and buffers hold. -/
def State.loads (s : State) : Loads where
  inbox := s.management.inbox.length
  delivery := s.shop.delivery.length
  outbound := s.engine.outbound.length
  inbound := s.engine.inbound.length
  unwrap := s.engine.unwrap.length
  staging := s.receiver.staging.length
  places := s.sendQueue.taken
  trafficPlaces := s.sendQueue.takenTraffic
  reports := s.reports.records.length

/-- Each number is within its bound. -/
structure Loads.Fit (x : Loads) : Prop where
  inbox : x.inbox ≤ 4
  delivery : x.delivery ≤ 16
  outbound : x.outbound ≤ 16
  inbound : x.inbound ≤ 16
  unwrap : x.unwrap ≤ 4
  staging : x.staging ≤ 1538
  places : x.places ≤ 32
  trafficPlaces : x.trafficPlaces ≤ 28
  reports : x.reports ≤ 24

/-- `State.WithinCapacities` said of `State.loads`, so that it passes through operations that change none of them. -/
def State.Fits (s : State) : Prop := s.loads.Fit

theorem State.withinCapacities_iff (s : State) : s.WithinCapacities ↔ s.Fits :=
  ⟨fun h => ⟨h.inbox, h.delivery, h.outbound, h.inbound, h.unwrap, h.staging, h.places, h.trafficPlaces, h.reports⟩,
    fun h => ⟨h.inbox, h.delivery, h.outbound, h.inbound, h.unwrap, h.staging, h.places, h.trafficPlaces, h.reports⟩⟩

/-! ## Items that join (R38 to R41, R157) -/

theorem State.Fits.joinOutbound {s : State} (h : s.Fits) (i : OutItem) (hl : s.engine.outbound.length < 16) :
    (s.joinOutbound i).Fits :=
  { h with
    outbound := by
      show (s.engine.outbound ++ [i]).length ≤ 16
      rw [List.length_append]
      exact hl }

/-- R41: control room leaves a place of the Outbound Work Queue. -/
theorem State.outbound_lt_of_controlRoom {s : State} (h : s.controlRoom = true) : s.engine.outbound.length < 16 := by
  simp only [State.controlRoom, Bool.and_eq_true, decide_eq_true_eq] at h
  exact h.1

theorem State.Fits.offerAnswer {s : State} (h : s.Fits) (k t : Byte) (c : Completion) (b : List Byte) (x m : Bool) :
    (s.offerAnswer k t c b x m).Fits := by
  rcases s.offerAnswer_cases k t c b x m with ⟨hr, e⟩ | ⟨_, e⟩ <;> rw [e]
  · exact h.joinOutbound _ (State.outbound_lt_of_controlRoom hr)
  · exact h

theorem State.Fits.joinInbox {s : State} (h : s.Fits) (m : ControlMessage) : (s.joinInbox m).Fits := by
  rcases s.joinInbox_cases m with ⟨hl, e⟩ | ⟨_, e⟩ <;> rw [e]
  · exact { h with
      inbox := by
        show (s.management.inbox ++ [m]).length ≤ 4
        rw [List.length_append]
        exact hl }
  · exact h

/-! ## The Fault Report Queue (R141 to R152) -/

theorem length_modifyFirst (p : ReportRecord → Bool) (f : ReportRecord → ReportRecord) (l : List ReportRecord) :
    (modifyFirst p f l).length = l.length := by
  induction l with
  | nil => rfl
  | cons r l ih =>
    unfold modifyFirst
    split
    · rfl
    · simp [ih]

theorem State.Fits.modReports {s : State} (h : s.Fits) (f : ReportQueue → ReportQueue)
    (hl : (f s.reports).records.length ≤ 24) : (s.modReports f).Fits := { h with reports := hl }

theorem State.Fits.offerReport {s : State} (h : s.Fits) (r : ReportRecord) (hr : s.controlRoom = true) :
    (s.offerReport r).Fits :=
  .modReports (h.joinOutbound _ (State.outbound_lt_of_controlRoom hr)) _
    (by rw [length_modifyFirst]; exact h.reports)

theorem State.Fits.sendAttempt {s : State} (h : s.Fits) : s.sendAttempt.Fits :=
  State.attemptSend_keeps State.Fits (fun _ r h _ _ _ hr => h.offerReport r hr) (fun _ _ h => h) 5 s h

/-- The lowest severity, started from `m`, is `m` or that of an UNSENT record. -/
theorem foldl_lowest (l : List ReportRecord) (m n : Nat)
    (hn : l.foldl (fun m r => if r.state = .unsent then min m r.severity.toNat else m) m = n) :
    n = m ∨ ∃ r ∈ l, r.state = .unsent ∧ r.severity.toNat = n := by
  induction l generalizing m with
  | nil => exact .inl hn.symm
  | cons x l ih =>
    rcases ih (if x.state = .unsent then min m x.severity.toNat else m) hn with e | ⟨r, hr, hs⟩
    · split at e
      · rename_i hx
        rcases Nat.le_total m x.severity.toNat with hm | hm
        · exact .inl (e.trans (Nat.min_eq_left hm))
        · exact .inr ⟨x, List.mem_cons_self, hx, (e.trans (Nat.min_eq_right hm)).symm⟩
      · exact .inl e
    · exact .inr ⟨r, List.mem_cons_of_mem _ hr, hs⟩

theorem lowSeverity_attained (l : List ReportRecord) (h : lowSeverity l < 256) :
    ∃ r ∈ l, r.state = .unsent ∧ r.severity.toNat = lowSeverity l :=
  (foldl_lowest l 256 _ rfl).resolve_left (Nat.ne_of_lt h)

/-- R145: an eviction at a queue with a record to evict frees one place. -/
theorem ReportQueue.length_evict {q : ReportQueue} (h : lowSeverity q.records < 256) :
    q.evict.records.length = q.records.length - 1 := by
  obtain ⟨r, hr, hs, hv⟩ := lowSeverity_attained _ h
  exact List.length_eraseP_of_mem hr (by simp [hs, hv])

theorem ReportQueue.length_create (q : ReportQueue) (p : Report) (now : W32) :
    (q.create p now).records.length = q.records.length + 1 := by simp [ReportQueue.create]

theorem State.Fits.handReport {s : State} (h : s.Fits) (p : Report) : (s.handReport p).Fits := by
  have hl : s.reports.records.length ≤ 24 := h.reports
  unfold State.handReport
  extract_lets now
  split
  · exact .sendAttempt (h.modReports _ (by rw [length_modifyFirst]; exact hl))
  · split
    · refine .sendAttempt (h.modReports _ ?_)
      rw [ReportQueue.length_create]
      omega
    · split
      · rename_i hp
        refine .sendAttempt (.modReports (s := s.countReportDrop) h _ ?_)
        have hlow : lowSeverity s.reports.records < 256 := hp.trans p.severity.isLt
        rw [ReportQueue.length_create, ReportQueue.length_evict (q := s.countReportDrop.reports) hlow]
        show s.reports.records.length - 1 + 1 ≤ 24
        omega
      · exact .sendAttempt (s := s.countReportDrop) h

/-- R151: a record that returns adds none. -/
theorem length_mergeReturning_le (l : List ReportRecord) (r : ReportRecord) : (mergeReturning l r).length ≤ l.length := by
  unfold mergeReturning
  split
  · rw [length_modifyFirst]
  · extract_lets merged older younger
    rw [length_modifyFirst]
    exact List.length_eraseP_le

theorem State.Fits.returnRecord {s : State} (h : s.Fits) (n : W16) : (s.returnRecord n).Fits := by
  unfold State.returnRecord
  split
  · exact h
  · exact .sendAttempt (h.modReports _ ((length_mergeReturning_le _ _).trans h.reports))

/-- R152: an acknowledgement adds no record. -/
theorem length_removeNumbered_le (l : List ReportRecord) (ns : List W16) : (removeNumbered l ns).1.length ≤ l.length := by
  induction ns generalizing l with
  | nil => exact Nat.le_refl _
  | cons n ns ih => exact (ih _).trans (List.length_filter_le _ _)

theorem State.Fits.acknowledge {s : State} (h : s.Fits) (ns : List W16) : (s.acknowledge ns).1.Fits := by
  have hr : (s.modReports (fun q => { q with records := (removeNumbered s.reports.records ns).1 })).Fits :=
    h.modReports _ ((length_removeNumbered_le _ _).trans h.reports)
  unfold State.acknowledge
  extract_lets r s'
  split
  · exact hr
  · exact hr.sendAttempt

/-! ## Renewal (R99 to R116) -/

theorem State.Fits.offerRenewRequest {s : State} (h : s.Fits) (a : AssocId) : (s.offerRenewRequest a).Fits := by
  rcases s.offerRenewRequest_cases a with e | ⟨p, hr, e⟩ <;> rw [e]
  · exact h
  · exact h.joinOutbound _ (State.outbound_lt_of_controlRoom hr)

theorem State.Fits.evaluateDue {s : State} (h : s.Fits) (a : AssocId) : (s.evaluateDue a).Fits := by
  rcases s.evaluateDue_cases a with ⟨_, _, e⟩ | ⟨_, _, e⟩ | ⟨_, e⟩ <;> rw [e]
  · exact h
  · exact h.offerRenewRequest a
  · exact h

theorem State.Fits.evaluateAll {s : State} (h : s.Fits) (l : List AssocId) : (s.evaluateAll l).Fits :=
  State.evaluateAll_keeps State.Fits (fun _ a h => h.evaluateDue a) l s h

theorem State.Fits.promote {s : State} (h : s.Fits) (a : AssocId) (b : BankId) : (s.promote a b).Fits :=
  .evaluateDue (s := s.modAssoc _ _) h a

theorem State.Fits.renewTimerExpires {s : State} (h : s.Fits) (a : AssocId) : (s.renewTimerExpires a).Fits := by
  unfold State.renewTimerExpires
  split
  · exact h
  · split
    · exact h
    · split
      · exact h.offerRenewRequest a
      · exact h

theorem State.Fits.exhaust {s : State} (h : s.Fits) (a : AssocId) (b : BankId) : (s.exhaust a b).Fits := by
  unfold State.exhaust
  extract_lets s'
  split
  · exact h
  · exact .handReport (s := s'.modBank _ _ _) h _

theorem State.Fits.endTransaction {s : State} (h : s.Fits) (a : AssocId) (c : Completion) :
    (s.endTransaction a c).Fits := by
  unfold State.endTransaction
  split
  · exact h
  · rename_i t _
    exact .evaluateDue (s := State.modAssoc _ _ _) (h.offerAnswer _ _ _ _ _ _) a

theorem State.Fits.wrapReject {s : State} (h : s.Fits) (a : AssocId) : (s.wrapReject a).Fits :=
  .handReport (s := s.countStation .wrapReject) h _

theorem State.Fits.finishOffer {s : State} (h : s.Fits) (i : UnwrapItem) (key : Key) (p : Bool) :
    (s.finishOffer i key p).Fits := by
  unfold State.finishOffer
  split
  · split
    · exact .endTransaction (.wrapReject (s := s.spendChoice) h _) _ _
    · exact .wrapReject (.endTransaction (s := s.spendChoice) h _ _) _
  · exact .endTransaction (s := State.modAssoc _ _ _) h _ _
  · exact h.endTransaction _ _

/-! ## The Trunk Send Queue (R79 to R82) -/

/-- R80: the reserved place that a freeing removes, among the others. -/
theorem SendQueue.unreserve_split {q : SendQueue} {c : TrafficClass}
    (h : q.reserved.any (fun p => p.place == c) = true) : ∃ x l₁ l₂, x.place = c ∧ q.reserved = l₁ ++ x :: l₂ ∧
      q.unreserve c = { q with reserved := l₁ ++ l₂ } := by
  obtain ⟨p, hp, hc⟩ := List.any_eq_true.mp h
  obtain ⟨x, l₁, l₂, -, hx, hq, he⟩ := List.exists_of_eraseP (p := fun p : ReservedPlace => p.place == c) hp hc
  exact ⟨x, l₁, l₂, beq_iff_eq.1 hx, hq, by rw [SendQueue.unreserve, he]⟩

/-- R80: a filling moves a place from the reserved to the filled ones of its class. -/
theorem SendQueue.takenTraffic_fill (q : SendQueue) (c : TrafficClass) (f : SealedFrame) :
    (q.fill c f).takenTraffic = q.takenTraffic := by
  unfold SendQueue.fill
  split
  · rename_i h
    obtain ⟨x, l₁, l₂, hx, hq, he⟩ := SendQueue.unreserve_split h
    rw [he, SendQueue.takenTraffic, SendQueue.takenTraffic, hq]
    cases c <;> simp [SendQueue.setFilled, SendQueue.filled, hx] <;> omega
  · rfl

/-- R80: freeing a reserved place takes none. -/
theorem SendQueue.takenTraffic_unreserve_le (q : SendQueue) (c : TrafficClass) :
    (q.unreserve c).takenTraffic ≤ q.takenTraffic := by
  have h := ((List.eraseP_sublist (p := fun p : ReservedPlace => p.place == c) (l := q.reserved)).filter
    (fun p => p.place != .control)).length_le
  exact Nat.add_le_add_left h _

/-- R82: the leaving of a frame takes no place. -/
theorem SendQueue.takenTraffic_leave_le (q : SendQueue) (c : TrafficClass) :
    (q.leave c).takenTraffic ≤ q.takenTraffic := by
  cases c <;> simp [SendQueue.takenTraffic, SendQueue.leave, SendQueue.setFilled, SendQueue.filled]

theorem State.Fits.modSendQueue {s : State} (h : s.Fits) (f : SendQueue → SendQueue)
    (hp : (f s.sendQueue).taken ≤ 32) (ht : (f s.sendQueue).takenTraffic ≤ 28) : (s.modSendQueue f).Fits :=
  { h with places := hp, trafficPlaces := ht }

theorem State.Fits.unreserve {s : State} (h : s.Fits) (c : TrafficClass) : (s.modSendQueue (fun q => q.unreserve c)).Fits :=
  h.modSendQueue _ ((SendQueue.taken_unreserve_le _ _).trans h.places)
    ((SendQueue.takenTraffic_unreserve_le _ _).trans h.trafficPlaces)

theorem State.Fits.leave {s : State} (h : s.Fits) (c : TrafficClass) : (s.modSendQueue (fun q => q.leave c)).Fits :=
  h.modSendQueue _ ((SendQueue.taken_leave_le _ _).trans h.places)
    ((SendQueue.takenTraffic_leave_le _ _).trans h.trafficPlaces)

theorem State.Fits.fillPlace {s : State} (h : s.Fits) (c : TrafficClass) (f : SealedFrame) : (s.fillPlace c f).Fits :=
  h.modSendQueue (fun q => q.fill c f) ((SendQueue.taken_fill _ _ _).le.trans h.places)
    ((SendQueue.takenTraffic_fill _ _ _).le.trans h.trafficPlaces)

/-! ## The Cipher Engine (R43 to R60) -/

theorem State.Fits.bindOutbound {s : State} (h : s.Fits) (i : OutItem) (b : BankId)
    (hp : s.sendQueue.placeFree (s.classOf i.assoc) = true) : (s.bindOutbound i b).Fits := by
  obtain ⟨places, traffic⟩ := SendQueue.reserve_lawful i.restartMark hp h.trafficPlaces
  unfold State.bindOutbound
  extract_lets k c frame
  refine .evaluateDue ?_ _
  exact { h with places := places, trafficPlaces := traffic }

theorem State.Fits.admitOutbound {s : State} (h : s.Fits) (i : OutItem)
    (hp : s.sendQueue.placeFree (s.classOf i.assoc) = true) : (s.admitOutbound i).Fits := by
  unfold State.admitOutbound
  extract_lets r
  split
  · exact h
  · split
    · exact h
    · split
      · exact h.exhaust _ _
      · split
        · exact h.bindOutbound i _ hp
        · exact h.exhaust _ _

theorem State.Fits.admitInbound {s : State} (h : s.Fits) (i : InItem) : (s.admitInbound i).Fits := by
  unfold State.admitInbound
  extract_lets r
  split
  · exact h
  · split
    · exact h
    · split
      · refine .evaluateDue ?_ _
        exact h
      · exact h.exhaust _ _

theorem State.Fits.admitUnwrap {s : State} (h : s.Fits) (i : UnwrapItem) : (s.admitUnwrap i).Fits := by
  unfold State.admitUnwrap
  split
  · exact h.endTransaction _ _
  · split
    · refine .evaluateDue ?_ _
      exact h
    · split
      · exact .endTransaction (.exhaust (s := s.spendChoice) h _ _) _ _
      · exact .exhaust (.endTransaction (s := s.spendChoice) h _ _) _ _

/-- R43: the arbiter takes from the outbound side only with a place free for its head's class. -/
theorem State.outboundReady_of_choice {s : State} (h : s.arbiterChoice = some .outbound) : s.outboundReady = true := by
  unfold State.arbiterChoice at h
  split_ifs at h with _ _ both _ ready
  · cases h
  · exact both.2
  · cases h
  · exact ready

theorem State.Fits.serveOutbound {s : State} (h : s.Fits) (hr : s.outboundReady = true) : s.serveOutbound.Fits := by
  unfold State.serveOutbound
  split
  · exact h
  · rename_i i l hq
    have hl : l.length ≤ 16 := Nat.le_of_succ_le (hq ▸ h.outbound : (i :: l).length ≤ 16)
    have hp : s.sendQueue.placeFree (s.classOf i.assoc) = true := by simpa [State.outboundReady, hq] using hr
    refine .admitOutbound ?_ i hp
    exact { h with outbound := hl }

theorem State.Fits.serve {s : State} (h : s.Fits) (c : ArbiterChoice) (hc : s.arbiterChoice = some c) :
    (s.serve c).Fits := by
  cases c with
  | unwrap =>
    show s.serveUnwrap.Fits
    unfold State.serveUnwrap
    split
    · exact h
    · rename_i i l hq
      have hl : l.length ≤ 4 := Nat.le_of_succ_le (hq ▸ h.unwrap : (i :: l).length ≤ 4)
      refine .admitUnwrap ?_ i
      exact { h with unwrap := hl }
  | inbound =>
    show s.serveInbound.Fits
    unfold State.serveInbound
    split
    · exact h
    · rename_i i l hq
      have hl : l.length ≤ 16 := Nat.le_of_succ_le (hq ▸ h.inbound : (i :: l).length ≤ 16)
      refine .admitInbound ?_ i
      exact { h with inbound := hl }
  | outbound => exact h.serveOutbound (State.outboundReady_of_choice hc)

theorem State.Fits.completeOutbound {s : State} (h : s.Fits) (a : AssocId) (b : BankId) (c : TrafficClass)
    (f : SealedFrame) : (s.completeOutbound a b c f).Fits := by
  unfold State.completeOutbound
  extract_lets s'
  split
  · exact .fillPlace (s := s') h c f
  · exact .unreserve (s := s') h c

theorem ShopPort.delivery_start (p : ShopPort) : p.start.delivery = p.delivery := by
  unfold ShopPort.start
  split
  · split <;> rfl
  · rfl

theorem State.Fits.deliver {s : State} (h : s.Fits) (i : InItem) (p : List Byte) : (s.deliver i p).Fits := by
  unfold State.deliver
  split
  · exact h.joinInbox _
  · unfold State.joinDelivery
    split
    · rename_i hl
      exact { h with
        delivery := by
          show (ShopPort.start _).delivery.length ≤ 16
          rw [ShopPort.delivery_start, List.length_append]
          exact hl }
    · exact h

theorem State.Fits.acceptInbound {s : State} (h : s.Fits) (i : InItem) : (s.acceptInbound i).Fits := by
  rw [State.acceptInbound_eq]
  extract_lets t
  split
  · exact .promote (s := t) h _ _
  · exact h

theorem State.Fits.completeInbound {s : State} (h : s.Fits) (i : InItem) (p g : List Byte) :
    (s.completeInbound i p g).Fits := by
  unfold State.completeInbound
  extract_lets s'
  split
  · exact h
  · split
    · exact h
    · split
      · exact .deliver (.acceptInbound (s := s') h i) i p
      · exact h

/-! ## Messages (R158 to R168) -/

theorem State.Fits.reply {s : State} (h : s.Fits) (m : ControlMessage) (c : Completion) (b : List Byte) :
    (s.reply m c b).Fits := h.offerAnswer _ _ _ _ _ _

theorem State.Fits.conclude {s : State} (h : s.Fits) (m : ControlMessage) (c : Completion) (b : List Byte) :
    (s.conclude m c b).Fits := by
  unfold State.conclude
  split <;> exact h.reply _ _ _

/-- R163: writing an entry of a table holds no more than before. -/
theorem State.Fits.writeEntry {w : Written} (h : w.1.Fits) (t : TableId) (i : Nat) (e : List Byte) :
    (t.writeEntry w i e).1.Fits := by
  cases t with
  | assocConfig =>
    show (writePolicyEntry w i e).1.Fits
    unfold writePolicyEntry
    split
    · split <;> exact h
    · exact h
  | flow =>
    show (writeFlowEntry w i e).1.Fits
    unfold writeFlowEntry
    split <;> exact h
  | monitor =>
    show (writeMonitorEntry w i e).1.Fits
    unfold writeMonitorEntry
    split
    · split <;> exact h
    · exact h
  | _ => exact h

theorem State.Fits.writeEntries {s : State} (h : s.Fits) (t : TableId) (first count : Nat) (l : List Byte) :
    (s.writeEntries t first count l).1.Fits :=
  List.foldlRecOn (motive := fun w : Written => w.1.Fits) _ _ h fun _ h _ _ => h.writeEntry _ _ _

theorem State.Fits.takeTableWrite {s : State} (h : s.Fits) (m : ControlMessage) : (s.takeTableWrite m).Fits := by
  unfold State.takeTableWrite
  extract_lets table first count
  split
  · exact h.reply _ _ _
  · rename_i t _
    extract_lets w body named
    have hw : w.1.Fits := h.writeEntries _ _ _ _
    split
    · exact hw.reply _ _ _
    · split
      · exact .reply (.evaluateAll (s := w.1.spendChoice) hw _) _ _ _
      · exact .evaluateAll (.reply (s := w.1.spendChoice) hw _ _ _) _

theorem State.Fits.openAssoc {s : State} (h : s.Fits) (a : AssocId) : (s.openAssoc a).1.Fits := by
  unfold State.openAssoc
  split
  · exact h
  · split <;> exact h

theorem State.Fits.closeAssoc {s : State} (h : s.Fits) (a : AssocId) : (s.closeAssoc a).1.Fits := by
  have closing : (s.startClosing a).Fits := .evaluateDue (s := s.modAssoc _ _) h a
  unfold State.closeAssoc
  split
  · exact h
  · split
    · exact h
    · exact h
    all_goals exact closing

/-- R101 check 7: an offer begins a transaction only with room in the Unwrap Queue. -/
theorem State.unwrap_lt_of_verdict {s : State} {a : AssocId} {g : W16} (h : s.offerVerdict a g = none) :
    s.engine.unwrap.length < 4 := by
  unfold State.offerVerdict at h
  extract_lets r at h
  split_ifs at h with h1 h2 h3 h4
  exact Nat.not_le.1 h4

theorem State.Fits.keyOffer {s : State} (h : s.Fits) (o : Byte) (g : W16) (t : Byte) (v : Carrier) (k : Key)
    (c : BitVec 64) : (s.keyOffer o g t v k c).1.Fits := by
  unfold State.keyOffer
  split
  · exact h
  · split
    · exact h
    · rename_i hv
      refine .evaluateDue ?_ _
      exact { h with
        unwrap := by
          show (s.engine.unwrap ++ [_]).length ≤ 4
          rw [List.length_append]
          exact State.unwrap_lt_of_verdict hv }

theorem State.Fits.keySwitch {s : State} (h : s.Fits) (o : Byte) (g : W16) : (s.keySwitch o g).1.Fits := by
  unfold State.keySwitch
  split
  · exact h
  · split
    · split
      · exact h.promote _ _
      · split <;> exact h
    · split <;> exact h

theorem State.Fits.keyWithdraw {s : State} (h : s.Fits) (o : Byte) (g : W16) : (s.keyWithdraw o g).1.Fits := by
  unfold State.keyWithdraw
  split
  · exact h
  · split
    · exact h
    · split
      · exact h
      · split
        · exact h
        · exact .evaluateDue (s := s.modBank _ _ _) h _

theorem State.Fits.handleMessage {s : State} (h : s.Fits) (m : ControlMessage) (k : MessageKind) :
    (s.handleMessage m k).Fits := by
  cases k with
  | echo => exact h.reply _ _ _
  | tableRead => exact h.conclude _ _ _
  | tableWrite => exact h.takeTableWrite m
  | assocOpen =>
    show (s.takeAssocOpen m).Fits
    unfold State.takeAssocOpen
    split
    · exact h.reply _ _ _
    · exact (h.openAssoc _).conclude _ _ _
  | assocClose =>
    show (s.takeAssocClose m).Fits
    unfold State.takeAssocClose
    split
    · exact h.reply _ _ _
    · exact (h.closeAssoc _).conclude _ _ _
  | assocResume =>
    show (s.takeAssocResume m).Fits
    unfold State.takeAssocResume
    split
    · exact h.reply _ _ _
    · exact .conclude (s := s.modAssoc _ _) h _ _ _
  | keyOffer =>
    show (s.takeKeyOffer m).Fits
    unfold State.takeKeyOffer
    extract_lets r
    have hr : r.1.Fits := h.keyOffer _ _ _ _ _ _
    split
    · exact hr
    · exact hr.reply _ _ _
  | keySwitch => exact (h.keySwitch _ _).reply _ _ _
  | keyWithdraw => exact (h.keyWithdraw _ _).reply _ _ _
  | monitorClear =>
    show (s.takeMonitorClear m).Fits
    unfold State.takeMonitorClear
    extract_lets o
    split
    · exact .reply (s := s.setMonitor _ _) h _ _ _
    · exact h.reply _ _ _
  | reportAck => exact (h.acknowledge _).reply _ _ _
  | serviceSet =>
    show (s.takeServiceSet m).Fits
    unfold State.takeServiceSet
    extract_lets v
    split
    · refine .reply ?_ _ _ _
      exact h
    · exact h.reply _ _ _
  | restart =>
    refine .offerAnswer ?_ _ _ _ _ _ _
    exact h

theorem State.Fits.takeHead {s : State} (h : s.Fits) : s.takeHead.Fits := by
  unfold State.takeHead
  split
  · exact h
  · rename_i m l hq
    have hl : l.length ≤ 4 := Nat.le_of_succ_le (hq ▸ h.inbox : (m :: l).length ≤ 4)
    have ht : (s.modManagement (fun u => { u with inbox := l })).Fits := { h with inbox := hl }
    unfold State.takeMessage
    split
    · exact ht.reply _ _ _
    · exact ht.handleMessage _ _

/-- R44, R158: the settling of an event keeps the capacities. -/
theorem State.Fits.settle {s : State} (h : s.Fits) : s.settle.Fits :=
  State.settle_keeps State.Fits (fun _ h _ => h.takeHead) (fun _ c h hc => h.serve c hc) (fun _ h => h) s h

/-! ## Time and the monitors (R110 to R139, R171) -/

theorem State.Fits.reach {s : State} (h : s.Fits) (t : Nat) : (s.reach t).Fits := by
  unfold State.reach
  split <;> exact h

theorem State.Fits.reachSecond {s : State} (h : s.Fits) (d : Option Nat) : (s.reachSecond d).Fits := by
  unfold State.reachSecond
  split <;> exact h

theorem State.Fits.passSecond {s : State} (h : s.Fits) : s.passSecond.Fits := by
  unfold State.passSecond State.storeSecond
  refine .settle (.evaluateAll ?_ _)
  split <;> exact h

theorem State.Fits.drainExpiry {s : State} (h : s.Fits) (a : AssocId) (b : BankId) : (s.drainExpiry a b).Fits := by
  unfold State.drainExpiry
  split
  · exact h
  · split <;> exact h

theorem State.Fits.inhibitExpires {s : State} (h : s.Fits) (m : MonitorId) : (s.inhibitExpires m).Fits := by
  unfold State.inhibitExpires
  extract_lets r
  split <;> exact h

theorem State.Fits.runAction {s : State} (h : s.Fits) (c : MonitorConfig) : (s.runAction c).Fits := by
  unfold State.runAction
  split
  · exact h
  · exact .evaluateDue (s := s.modAssoc _ _) h _
  · exact h

theorem State.Fits.takeSample {s : State} (h : s.Fits) (m : MonitorId) : (s.takeSample m).Fits := by
  unfold State.takeSample
  split
  · extract_lets r p
    unfold State.sampleEffect
    split
    · exact h
    · unfold State.fire
      extract_lets report
      split
      · refine .runAction (.handReport ?_ _) _
        exact h
      · refine .handReport (.runAction ?_ _) _
        exact h
    · exact .handReport (s := s.setMonitor _ _) h _
  · exact h

/-! ## The lines (R22 to R37, R67 to R98) -/

theorem State.Fits.shopFrame {s : State} (h : s.Fits) (o : List Byte) (e : Bool) : (s.shopFrame o e).Fits := by
  unfold State.shopFrame
  extract_lets frame s'
  split
  · exact h
  · split
    · exact h
    · unfold State.classify
      split
      · exact h
      · split
        · exact h
        · unfold State.protectFrame
          split
          · exact h
          · split
            · exact h
            · refine .settle (.joinOutbound ?_ _ (Nat.not_le.1 ‹_›))
              exact h

theorem State.Fits.trunkFrame {s : State} (h : s.Fits) (c : List Byte) : (s.trunkFrame c).Fits := by
  have joins : (s.frameForBank c).Fits := by
    unfold State.frameForBank
    extract_lets a
    split
    · exact h
    · split
      · exact h
      · split
        · exact h
        · refine .settle { h with inbound := ?_ }
          show (s.engine.inbound ++ [_]).length ≤ 16
          rw [List.length_append]
          exact Nat.not_le.1 ‹_›
  unfold State.trunkFrame
  extract_lets a
  split_ifs
  · exact h
  · exact h
  · exact h
  · exact h
  · exact h
  · exact joins
  · exact h

/-- R67, R68: the staging buffer never holds more than 1538 octets. -/
theorem Receiver.length_takeOctet {r : Receiver} (h : r.staging.length ≤ 1538) (o : Byte) :
    (r.takeOctet o).1.staging.length ≤ 1538 := by
  have stored (x : Byte) : (r.store x).1.staging.length ≤ 1538 := by
    unfold Receiver.store
    split
    · exact Nat.zero_le _
    · rename_i hl
      rw [List.length_append]
      exact Nat.not_le.1 hl
  unfold Receiver.takeOctet
  split
  · exact h
  · unfold Receiver.openOctet
    split_ifs
    · exact h
    · exact Nat.zero_le _
    · exact Nat.zero_le _
    · exact Nat.le_of_ble_eq_true rfl
  · unfold Receiver.frameOctet
    split_ifs
    · exact Nat.zero_le _
    · exact Nat.zero_le _
    · exact h
    · exact stored o
  · unfold Receiver.escapedOctet
    split_ifs
    · exact Nat.zero_le _
    · exact stored _
    · exact stored _
    · exact Nat.zero_le _
  · split
    · exact Nat.zero_le _
    · exact h

theorem State.Fits.receiveOctet {s : State} (h : s.Fits) (o : Byte) : (s.receiveOctet o).Fits := by
  have taken : (s.modReceiver (fun _ => (s.receiver.takeOctet o).1)).Fits :=
    { h with staging := Receiver.length_takeOctet h.staging o }
  unfold State.receiveOctet State.framingEffect
  split
  · exact taken
  · exact taken
  · exact taken.trunkFrame _

theorem State.Fits.releaseBurst {s : State} (h : s.Fits) : s.releaseBurst.Fits := by
  unfold State.releaseBurst
  split
  · exact .settle (.handReport (s := s.modAccess _) h _)
  · exact h

theorem State.Fits.hold {s : State} (h : s.Fits) (p : HoldPoint) : (s.hold p).Fits := by
  unfold State.hold
  split <;> exact h

theorem State.Fits.receiverClockLoss {s : State} (h : s.Fits) : s.receiverClockLoss.Fits := by
  unfold State.receiverClockLoss
  split <;> exact { h with staging := Nat.zero_le _ }

theorem State.Fits.clockLost {s : State} (h : s.Fits) : s.clockLost.Fits := by
  refine .settle (.handReport (.receiverClockLoss ?_) _)
  exact h

theorem ShopPort.delivery_takeReady (p : ShopPort) (b : Bool) : (p.takeReady b).delivery = p.delivery :=
  ShopPort.delivery_start _

theorem ShopPort.length_finish (p : ShopPort) (b : Bool) : (p.finish b).delivery.length ≤ p.delivery.length := by
  unfold ShopPort.finish
  split
  · rw [ShopPort.delivery_takeReady]
  · rw [ShopPort.delivery_takeReady]
    exact p.delivery.length_tail ▸ Nat.sub_le _ _

/-! ## Resets and start-up (R173, R174) -/

/-- R173: a part with every block in its state after reset holds nothing. -/
theorem State.fits_blocksAfterReset (s : State) : s.blocksAfterReset.Fits :=
  ⟨Nat.zero_le _, Nat.zero_le _, Nat.zero_le _, Nat.zero_le _, Nat.zero_le _, Nat.zero_le _, Nat.zero_le _,
    Nat.zero_le _, Nat.zero_le _⟩

theorem State.Fits.sentFrame {s : State} (h : s.Fits) : s.sentFrame.Fits := by
  unfold State.sentFrame
  split
  · exact h
  · split
    · exact h
    · unfold State.frameLeaves
      split
      · exact s.fits_blocksAfterReset
      · exact .settle (h.leave _)

theorem State.fits_startUp (s : State) (straps : BitVec 3) (pace : Pace) (o : StartUpOutcome) :
    (s.startUp straps pace o).Fits := by
  cases o with
  | completed =>
    simp only [State.startUp, State.completeStartUp]
    refine .settle (.handReport ?_ _)
    exact s.fits_blocksAfterReset
  | abandonedBeforeWrite c => exact s.fits_blocksAfterReset
  | abandonedAfterWrite c => exact s.fits_blocksAfterReset

/-! ## Commands -/

theorem State.Fits.of_event {s t : State} {c : Bool} {f : State → State} (h : s.Fits) (e : s.event c f = .next t)
    (hf : (f s).Fits) : t.Fits := by
  unfold State.event at e
  split at e <;> cases e
  · exact hf
  · exact h

/-- A control message's arrival, its taking and what follows at that event. -/
theorem State.Fits.of_message {s t : State} {m : ControlMessage} (h : s.Fits) (e : s.messageEvent m = .next t) : t.Fits :=
  h.of_event e (h.joinInbox m).settle

theorem State.Fits.of_lineEvent {s t : State} {c : Bool} {f : State → State} (h : s.Fits) (e : s.lineEvent c f = .next t)
    (hf : s.clockEdge.Fits → (f s.clockEdge).Fits) : t.Fits := h.of_event e (hf h)

/-- Every command keeps the capacities. -/
theorem State.Fits.exec {c : Instr} {s t : State} (h : s.Fits) (e : exec c s = .next t) : t.Fits := by
  cases c <;> simp only [Machine.exec] at e
  case shopFrameArrival o m => exact h.of_event e (h.shopFrame o m)
  case shopTransmitStart =>
    exact h.of_event e { h with delivery := (congrArg List.length (ShopPort.delivery_takeReady _ _)).le.trans h.delivery }
  case shopTransmissionEnd =>
    exact h.of_event e { h with delivery := (ShopPort.length_finish _ _).trans h.delivery }
  case trunkFramingDrop | trunkFrameArrival | trunkReceiveOctet => exact h.of_lineEvent e fun h => h.receiveOctet _
  case outboundCompletion =>
    refine h.of_event e ?_
    unfold State.outboundDone
    split
    · exact (h.completeOutbound _ _ _ _).settle
    · exact h
  case inboundCompletion =>
    refine h.of_event e ?_
    unfold State.inboundDone
    split
    · exact (h.completeInbound _ _ _).settle
    · exact h
  case unwrapCompletion =>
    refine h.of_event e ?_
    unfold State.unwrapDone
    split
    · exact .settle (.finishOffer (s := s.engineIdle) h _ _ _)
    · exact h
  case restartLimitExpiry => exact h.of_event e s.fits_blocksAfterReset
  case resetCondition c p =>
    cases e
    split
    · exact s.fits_blocksAfterReset
    · unfold State.conditionEnds
      split <;> exact h
  case startUp straps pace o =>
    cases e
    split
    · exact s.fits_startUp straps pace o
    · exact h
  case timeBaseSecond => exact h.of_event e h.passSecond
  case drainDeadlineExpiry a b => exact h.of_event e ((h.reachSecond _).drainExpiry a b)
  case renewRequestTimerExpiry a => exact h.of_event e ((h.reachSecond _).renewTimerExpires a).settle
  case startupInhibitExpiry m => exact h.of_event e ((h.reachSecond _).inhibitExpires m)
  case monitorSample m => exact h.of_event e ((h.reachSecond _).takeSample m).settle
  case ackDeadlineExpiry n => exact h.of_event e ((h.reach _).returnRecord n).settle
  case pacingTimerExpiry | retryTimerExpiry =>
    refine h.of_event e (.settle (.sendAttempt ?_))
    exact h.reach _
  case frameSent => exact h.of_lineEvent e fun h => h.sentFrame
  case burstRelease => exact h.of_lineEvent e fun h => h.releaseBurst
  case standoffExpiry => exact h.of_event e (h.reach _)
  case paceHold p => exact h.of_event e (h.hold p)
  case paceGo | trunkClockReturn => exact h.of_event e h
  case trunkClockLoss => exact h.of_event e (h.reach _).clockLost
  case huntDelimiterFound => exact h.of_lineEvent e fun h => { h with staging := Nat.zero_le _ }
  case lineQuiet | openGap | claimByOtherStation | lineWatchGuard | claimStart | claimLost | claimWon | clash
      | busyPeriodEnd | lineWatchOctet => exact h.of_lineEvent e fun h => h
  all_goals exact h.of_message e

theorem State.Fits.step {s t : State} (h : s.Fits) (e : step s = .next t) : t.Fits := by
  unfold Machine.step at e
  split at e
  · rename_i rest _
    exact State.Fits.exec (s := { s with pending := rest }) h e
  · split at e
    · unfold idleStep at e
      split at e
      · exact State.Fits.exec (s := s.spendChoice) h e
      · cases e
        exact h.reach _
    · cases e
      exact h

/-- Settles O5: the capacities said of `State.loads`, which most operations leave as they are; an item joins where there
is room, a place is reserved where one is free for its class, and a report is created where one was evicted. -/
theorem everyStepKeepsTheCapacities : Obligations.EveryStepKeepsTheCapacities := fun s t hs h =>
  t.withinCapacities_iff.2 ((s.withinCapacities_iff.1 hs).step h)

end Sys2Proof.Machine
end

section
/-! The values a shop frame is matched on and the frames a Flow Table entry matches (R26, R28). -/

namespace Sys2Proof.Machine

/-! ## Fields as numbers (R177) -/

/-- R177: a number carried in two parts, the first most significant. -/
theorem toNat_append_mul {m n : Nat} (x : BitVec m) (y : BitVec n) : (x ++ y).toNat = x.toNat * 2 ^ n + y.toNat := by
  rw [BitVec.toNat_append, ← Nat.shiftLeft_add_eq_or_of_lt y.isLt, Nat.shiftLeft_eq]

theorem word16At_toNat (l : List Byte) (i : Nat) :
    (word16At l i).toNat = (octetAt l i).toNat * 256 + (octetAt l (i + 1)).toNat := toNat_append_mul _ _

theorem word48At_toNat (l : List Byte) (i : Nat) : (word48At l i).toNat =
    ((word16At l i).toNat * 65536 + (word16At l (i + 2)).toNat) * 65536 + (word16At l (i + 4)).toNat := by
  rw [word48At, word32At, toNat_append_mul, toNat_append_mul, Nat.add_assoc i]
  omega

/-- A 2-octet field with a known value is its two octets. -/
theorem word16At_eq_iff (l : List Byte) (i : Nat) (x y : Byte) :
    word16At l i = x ++ y ↔ octetAt l i = x ∧ octetAt l (i + 1) = y := by
  have hl := (octetAt l (i + 1)).isLt
  have hy := y.isLt
  rw [← BitVec.toNat_inj, ← BitVec.toNat_inj, ← BitVec.toNat_inj, word16At_toNat, toNat_append_mul]
  omega

/-! ## The parsed values (R26) -/

theorem parseFrame_tagged {f : List Byte} (h : octetAt f 12 = 0x81 ∧ octetAt f 13 = 0) : parseFrame f =
    { destination := word48At f 0, lane := some ((word16At f 14).extractLsb' 0 12), ethertype := word16At f 16 } :=
  if_pos ((word16At_eq_iff f 12 0x81 0).2 h)

theorem parseFrame_untagged {f : List Byte} (h : ¬(octetAt f 12 = 0x81 ∧ octetAt f 13 = 0)) : parseFrame f =
    { destination := word48At f 0, lane := none, ethertype := word16At f 12 } :=
  if_neg (fun e => h ((word16At_eq_iff f 12 0x81 0).1 e))

theorem parseFrame_destination (f : List Byte) : (parseFrame f).destination = word48At f 0 := by
  unfold parseFrame
  split <;> rfl

/-! ## The patterns (R28) -/

/-- R28, R179: a lane pattern with a code: ANY, UNTAGGED or the lane named. -/
theorem laneMatches_iff {w : W16} (hw : laneMatchCoded w = true) (lane : Option (BitVec 12)) :
    laneMatches w lane = true ↔
      w = 0xF000 ∨ (w = 0xF001 ∧ lane = none) ∨ ∃ v : BitVec 12, lane = some v ∧ v.toNat = w.toNat := by
  have hcode : w = 0xF000 ∨ w = 0xF001 ∨ w.toNat ≤ 4094 := by
    simp only [laneMatchCoded, Bool.or_eq_true, Bool.and_eq_true, beq_iff_eq, decide_eq_true_eq] at hw
    tauto
  have hlane (v : BitVec 12) : v.zeroExtend 16 = w ↔ v.toNat = w.toNat := by
    have := v.isLt
    rw [← BitVec.toNat_inj, BitVec.toNat_setWidth, Nat.mod_eq_of_lt (by omega)]
  unfold laneMatches
  split
  · simp_all
  · split
    · rename_i hu
      subst hu
      cases lane with
      | none => simp
      | some v =>
        have := v.isLt
        simp
        omega
    · cases lane with
      | none => simp_all
      | some v => simp_all

theorem FlowEntry.accepts_invalid {e : FlowEntry} (h : e.valid = false) (p : Parsed) : e.accepts p = false := by
  simp [FlowEntry.accepts, h]

/-- R28: a valid entry matches by its three patterns. -/
theorem FlowEntry.accepts_iff {e : FlowEntry} (h : e.valid = true) (p : Parsed) : e.accepts p = true ↔
    laneMatches e.laneMatch p.lane = true ∧ (e.ethertypeGiven = false ∨ p.ethertype = e.ethertype) ∧
      (e.destinationGiven = false ∨ p.destination = e.destination) := by
  simp [FlowEntry.accepts, h, and_assoc, eq_comm (a := p.ethertype), eq_comm (a := p.destination)]

/-- Settles O13: the parsed values as numbers, and an entry by its three patterns. -/
theorem flowEntryMatchesItsPatterns : Obligations.FlowEntryMatchesItsPatterns := by
  unfold Obligations.FlowEntryMatchesItsPatterns
  refine ⟨?parsed, ?matched⟩
  case parsed =>
    intro f number
    refine ⟨?_, fun tagged => ?_, fun untagged => ?_⟩
    · rw [parseFrame_destination, word48At_toNat]
      simp only [word16At_toNat]
      rfl
    · rw [parseFrame_tagged tagged]
      refine ⟨word16At_toNat f 16, _, rfl, ?_⟩
      rw [BitVec.extractLsb'_toNat, word16At_toNat]
      rfl
    · rw [parseFrame_untagged untagged]
      exact ⟨word16At_toNat f 12, rfl⟩
  case matched =>
    refine fun e p => ⟨fun hv => FlowEntry.accepts_invalid hv p, fun hv hc => ?_, fun hv hl he hd => ?_⟩
    · rw [FlowEntry.accepts_iff hv, laneMatches_iff hc]
    · exact (FlowEntry.accepts_iff hv p).2 ⟨if_pos hl, .inl he, .inl hd⟩

end Sys2Proof.Machine
end

section
/-! The frames the part sends to the shop (R23, R24, R36). -/

namespace Sys2Proof.Machine

/-- R36: the octets of a plaintext that the check of R24 covers: it is padded with zero octets to 60. -/
def paddedPlaintext (p : List Byte) : List Byte := p ++ List.replicate (60 - p.length) 0

theorem shopFrameOctets_eq (p : List Byte) :
    shopFrameOctets p = paddedPlaintext p ++ frameCheckOctets (paddedPlaintext p) := rfl

theorem length_paddedPlaintext (p : List Byte) : (paddedPlaintext p).length = max p.length 60 := by
  rw [paddedPlaintext, List.length_append, List.length_replicate]
  omega

@[simp] theorem length_frameCheckOctets (l : List Byte) : (frameCheckOctets l).length = 4 := by simp [frameCheckOctets]

theorem length_shopFrameOctets (p : List Byte) : (shopFrameOctets p).length = max p.length 60 + 4 := by
  rw [shopFrameOctets_eq, List.length_append, length_paddedPlaintext, length_frameCheckOctets]

/-- R23: the length and check tests of a frame. -/
theorem shopFramePasses_iff (f : List Byte) (mark : Bool) : shopFramePasses f mark = true ↔
    64 ≤ f.length ∧ f.length ≤ 1522 ∧ mark = false ∧
      frameCheckOctets (f.take (f.length - 4)) = f.drop (f.length - 4) := by
  simp [shopFramePasses, and_assoc]

/-- R24: a frame that ends in its own check passes it. -/
theorem frameCheck_holds (l : List Byte) : let f := l ++ frameCheckOctets l
    frameCheckOctets (f.take (f.length - 4)) = f.drop (f.length - 4) := by
  intro f
  have hl : f.length - 4 = l.length := by simp [f]
  rw [hl, List.take_left, List.drop_left]

/-- Settles O21: the frame is the padded plaintext with its own check after it. -/
theorem shopFramesPassTheirOwnCheck : Obligations.ShopFramesPassTheirOwnCheck := by
  unfold Obligations.ShopFramesPassTheirOwnCheck
  intro p hp
  have hlen := length_shopFrameOctets p
  refine ⟨hlen, ?passes, ?plaintext, fun i hi h60 => ?padding⟩
  case passes =>
    exact (shopFramePasses_iff _ _).2 ⟨by omega, by omega, rfl, frameCheck_holds _⟩
  case plaintext =>
    rw [shopFrameOctets_eq, paddedPlaintext, List.append_assoc, List.take_left]
  case padding =>
    rw [shopFrameOctets_eq, List.getElem?_append_left (by rw [length_paddedPlaintext]; omega), paddedPlaintext,
      List.getElem?_append_right hi, List.getElem?_replicate_of_lt (by omega)]

end Sys2Proof.Machine
end

section
/-! The Shop Port and the Flow Classifier: a frame's arrival and what becomes of it (R22 to R32), and transmission (R36). -/

namespace Sys2Proof.Machine

/-! ## Commands of the Shop Port -/

/-- R173: an event that can happen whenever the part runs. -/
theorem State.event_running {s : State} (h : s.power.running = true) (f : State → State) :
    s.event true f = .next (f s) := by
  rw [State.event, h]
  rfl

/-- R22 to R25: the state with the receive buffer empty. -/
def State.bufferEmptied (s : State) : State := { s with shop := { s.shop with receive := [] } }

theorem exec_shopFrameArrival {s : State} (h : s.power.running = true) (o : List Byte) (mark : Bool) :
    exec (.shopFrameArrival o mark) s = .next (s.shopFrame o mark) :=
  State.event_running h (fun s => s.shopFrame o mark)

/-! ## Reception (R22 to R25) -/

theorem State.shopFrame_bad {s : State} {o : List Byte} {mark : Bool}
    (h : shopFramePasses (s.shop.receive ++ o) mark = false) :
    s.shopFrame o mark = s.bufferEmptied.countStation .shopBad := if_pos (by rw [h]; rfl)

theorem State.shopFrame_serviceOff {s : State} {o : List Byte} {mark : Bool}
    (h : shopFramePasses (s.shop.receive ++ o) mark = true) (hs : s.management.serviceOn = false) :
    s.shopFrame o mark = s.bufferEmptied.countStation .serviceDrop :=
  (if_neg (by rw [h]; simp)).trans (if_pos (by rw [State.modShop_management, hs]; rfl))

theorem State.shopFrame_classified {s : State} {o : List Byte} {mark : Bool}
    (h : shopFramePasses (s.shop.receive ++ o) mark = true) (hs : s.management.serviceOn = true) :
    s.shopFrame o mark =
      s.bufferEmptied.classify ((s.shop.receive ++ o).take ((s.shop.receive ++ o).length - 4)) :=
  (if_neg (by rw [h]; simp)).trans (if_neg (by rw [State.modShop_management, hs]; simp))

/-! ## Classification (R28 to R32) -/

/-- R29: the first entry that matches. -/
theorem State.firstMatch_eq_some {s : State} {p : Parsed} {i : Fin 48} :
    s.firstMatch p = some i ↔
      (s.flowEntry i).accepts p = true ∧ ∀ j, j < i → (s.flowEntry j).accepts p = false := by
  rw [State.firstMatch, ← Fin.find?_eq_find?_finRange, Fin.find?_eq_some_iff]

theorem State.firstMatch_eq_none {s : State} {p : Parsed} :
    s.firstMatch p = none ↔ ∀ i, (s.flowEntry i).accepts p = false := by
  rw [State.firstMatch, ← Fin.find?_eq_find?_finRange, Fin.find?_eq_none_iff]

theorem State.classify_unmatched {s : State} {p : List Byte}
    (h : ∀ i, (s.flowEntry i).accepts (parseFrame p) = false) : s.classify p = s.countStation .unmatched := by
  rw [State.classify, State.firstMatch_eq_none.2 h]

theorem State.classify_discarded {s : State} {p : List Byte} {i : Fin 48} (h : s.firstMatch (parseFrame p) = some i)
    (hd : (s.flowEntry i).action = 0) : s.classify p = s.countHit i := by
  rw [State.classify, h]
  exact if_pos hd

theorem State.classify_protected {s : State} {p : List Byte} {i : Fin 48} {a : AssocId}
    (h : s.firstMatch (parseFrame p) = some i) (hd : (s.flowEntry i).action ≠ 0)
    (ha : (s.flowEntry i).association.toNat = a.val) : s.classify p = (s.countHit i).protectFrame a p := by
  have hf : Fin.ofNat 32 (s.flowEntry i).association.toNat = a := Fin.ext (by
    rw [ha]
    exact Nat.mod_eq_of_lt a.isLt)
  rw [State.classify, h]
  exact (if_neg hd).trans (by rw [hf])

theorem State.protectFrame_refused {s : State} {a : AssocId} (p : List Byte)
    (h : (s.assoc a).state ≠ .live ∨ (s.assoc a).direction = .inbound) :
    s.protectFrame a p = s.countAssoc a .stateDrop := by
  refine if_pos fun ⟨hl, hd⟩ => ?_
  rcases h with h | h
  · exact h hl
  · exact (Direction.allowsOutbound_iff _).1 hd h

theorem State.protectFrame_full {s : State} {a : AssocId} (p : List Byte) (hl : (s.assoc a).state = .live)
    (hd : (s.assoc a).direction ≠ .inbound) (hf : 16 ≤ s.engine.outbound.length) :
    s.protectFrame a p = s.countAssoc a .queueDrop :=
  (if_neg (not_not.2 ⟨hl, (Direction.allowsOutbound_iff _).2 hd⟩)).trans (if_pos hf)

theorem State.protectFrame_joins {s : State} {a : AssocId} (p : List Byte) (hl : (s.assoc a).state = .live)
    (hd : (s.assoc a).direction ≠ .inbound) (hf : s.engine.outbound.length < 16) :
    s.protectFrame a p =
      (s.joinOutbound { assoc := a, plaintext := p, restartMark := false, setsMark := false }).settle :=
  (if_neg (not_not.2 ⟨hl, (Direction.allowsOutbound_iff _).2 hd⟩)).trans (if_neg (Nat.not_le.2 hf))

/-- Settles O33: reception, then classification, case by case. -/
theorem shopFrameIsDroppedAndCounted : Obligations.ShopFrameIsDroppedAndCounted := by
  unfold Obligations.ShopFrameIsDroppedAndCounted
  intro s octets mark hr frame plaintext leaves
  have arrives {t : State} (e : s.shopFrame octets mark = { t with shop := { s.shop with receive := [] } }) : leaves t :=
    (exec_shopFrameArrival hr octets mark).trans (congrArg _ e)
  refine ⟨fun hbad => arrives (State.shopFrame_bad ?bad), fun hpass => ⟨fun hoff => ?serviceOff,
    fun hon => ⟨fun hnone => ?unmatched, fun i hi hfirst => ?matched⟩⟩⟩
  case bad =>
    rw [← Bool.not_eq_true, shopFramePasses_iff]
    rintro ⟨hlong, hshort, hmark, hcheck⟩
    rcases hbad with h | h | h | h
    · exact Nat.not_le.2 h hlong
    · exact Nat.not_le.2 h hshort
    · exact Bool.noConfusion (h.symm.trans hmark)
    · exact h hcheck.symm
  case serviceOff => exact arrives (State.shopFrame_serviceOff hpass hoff)
  case unmatched => exact arrives ((State.shopFrame_classified hpass hon).trans (State.classify_unmatched hnone))
  case matched =>
    intro hit
    have hmatch : s.bufferEmptied.firstMatch (parseFrame plaintext) = some i := State.firstMatch_eq_some.2 ⟨hi, hfirst⟩
    have classified := State.shopFrame_classified hpass hon
    refine ⟨fun hd => arrives (classified.trans (State.classify_discarded hmatch hd)), fun hd a ha => ?_⟩
    have reaches := classified.trans (State.classify_protected hmatch hd ha)
    exact ⟨fun h => arrives (reaches.trans (State.protectFrame_refused _ h)),
      fun hl hdir hfull => arrives (reaches.trans (State.protectFrame_full _ hl hdir hfull))⟩

/-- Settles O34: the frame joins at the tail, and a BUSY engine takes nothing. -/
theorem protectedShopFrameJoinsTheOutboundQueue : Obligations.ProtectedShopFrameJoinsTheOutboundQueue := by
  unfold Obligations.ProtectedShopFrameJoinsTheOutboundQueue
  intro s octets i a hb hon frame plaintext hpass hi hfirst hact ha hl hdir hroom
  have hmatch : s.bufferEmptied.firstMatch (parseFrame plaintext) = some i := State.firstMatch_eq_some.2 ⟨hi, hfirst⟩
  have hprotect : (s.flowEntry i).action ≠ 0 := by rw [hact]; decide
  have hout : (s.assoc a).direction ≠ .inbound := by rcases hdir with h | h <;> rw [h] <;> decide
  have joins := State.protectFrame_joins (s := s.bufferEmptied.countHit i) plaintext hl hout hroom
  rw [exec_shopFrameArrival hb.running, State.shopFrame_classified hpass hon, State.classify_protected hmatch hprotect ha,
    joins]
  exact congrArg Host.Outcome.next (State.settle_busy hb.busy hb.inbox)

/-! ## Transmission (R36) -/

/-- R36: in IDLE with a frame waiting, the ready input starts the transmission of the head. -/
theorem ShopPort.takeReady_starts {p : ShopPort} {f : List Byte} {l : List (List Byte)} (ht : p.transmit = .idle)
    (hd : p.delivery = f :: l) :
    p.takeReady true = { p with macReady := true, transmit := .sending (shopFrameOctets f) } := by
  simp only [ShopPort.takeReady, ShopPort.start, ht, hd, if_true]

/-- R36: nothing starts while a frame is sent, with none waiting, or with the MAC side not ready. -/
theorem ShopPort.takeReady_alone {p : ShopPort} {ready : Bool}
    (h : p.transmit ≠ .idle ∨ p.delivery = [] ∨ ready = false) : p.takeReady ready = { p with macReady := ready } := by
  unfold ShopPort.takeReady ShopPort.start
  split
  · rename_i ht hd
    rcases h with h | h | h
    · exact absurd ht h
    · exact absurd (hd.symm.trans h) (List.cons_ne_nil _ _)
    · exact if_neg (by simp [h])
  · rfl

theorem ShopPort.finish_idle {p : ShopPort} (h : p.transmit = .idle) (ready : Bool) :
    p.finish ready = p.takeReady ready := by
  rw [ShopPort.finish, h]

theorem ShopPort.finish_sending {p : ShopPort} {o : List Byte} (h : p.transmit = .sending o) (ready : Bool) :
    p.finish ready = { p with delivery := p.delivery.tail, transmit := .idle }.takeReady ready := by
  rw [ShopPort.finish, h]

theorem exec_shopTransmitStart {s : State} (h : s.power.running = true) :
    exec .shopTransmitStart s = .next { s with shop := s.shop.takeReady true } :=
  State.event_running h (fun s => s.modShop (fun p => p.takeReady true))

theorem exec_shopTransmissionEnd {s : State} (h : s.power.running = true) (ready : Bool) :
    exec (.shopTransmissionEnd ready) s = .next { s with shop := s.shop.finish ready } :=
  State.event_running h (fun s => s.modShop (fun p => p.finish ready))

/-- Settles O35: a transmission starts in IDLE with a frame waiting and the MAC side ready, and in no other case. -/
theorem shopTransmissionStartsAndEnds : Obligations.ShopTransmissionStartsAndEnds := by
  unfold Obligations.ShopTransmissionStartsAndEnds
  intro s hr
  have begins {p : ShopPort} (e : s.shop.takeReady true = p) : exec .shopTransmitStart s = .next { s with shop := p } := by
    rw [exec_shopTransmitStart hr, e]
  have ends {ready : Bool} {p : ShopPort} (e : s.shop.finish ready = p) :
      exec (.shopTransmissionEnd ready) s = .next { s with shop := p } := by
    rw [exec_shopTransmissionEnd hr, e]
  refine ⟨fun hi f l hd => begins (ShopPort.takeReady_starts hi hd),
    fun h => begins (ShopPort.takeReady_alone (h.imp_right .inl)), fun hi => ?idle, fun o ho => ?sending⟩
  case idle =>
    exact ⟨ends ((ShopPort.finish_idle hi _).trans (ShopPort.takeReady_alone (.inr (.inr rfl)))),
      (ends (ShopPort.finish_idle hi _)).trans (exec_shopTransmitStart hr).symm⟩
  case sending =>
    have sent (ready : Bool) := ShopPort.finish_sending ho ready
    refine ⟨fun ready hd => ?last, fun f g l hd => ⟨?next, ?waits⟩⟩
    case last =>
      have hnone : s.shop.delivery.tail = [] := List.eq_nil_of_length_eq_zero (by rw [List.length_tail]; omega)
      refine ends ((sent ready).trans ?_)
      rw [hnone]
      exact ShopPort.takeReady_alone (.inr (.inl rfl))
    case next =>
      refine ends ((sent true).trans ?_)
      rw [hd]
      exact ShopPort.takeReady_starts rfl rfl
    case waits =>
      refine ends ((sent false).trans ?_)
      rw [hd]
      exact ShopPort.takeReady_alone (.inr (.inr rfl))

end Sys2Proof.Machine
end

section
/-! What holds the part in reset (R168, R173), and the blocks after reset. -/

namespace Sys2Proof.Machine

/-- R37, R61, R78, R79, R98, R121, R140, R156, R169: a held part is the state after reset in all but the commands that wait,
the free choices, the power state, the Provisioning Store, the identity and the two pins. -/
theorem State.blocksAfterReset_eq (s : State) (p : PowerState) : ({ s.blocksAfterReset with power := p } : State) =
    { State.reset with
      pending := s.pending, free := s.free, power := p, provisioning := s.provisioning, identity := s.identity
      shop := { State.reset.shop with macReady := s.shop.macReady }
      access := { State.reset.access with pace := s.access.pace } } := rfl

/-- R168: the soft reset at the restart limit. -/
theorem exec_restartLimitExpiry {s : State} {n : Nat} (hr : s.power.running = true)
    (ht : s.management.restartTakenAt = some n) (hu : s.Unobstructed (n + 2000)) :
    exec .restartLimitExpiry s = .next s.softReset := by
  have hd : s.restartDeadline = some (n + 2000) := by rw [State.restartDeadline, ht]; rfl
  have he : s.expires s.restartDeadline = true := by rw [hd]; exact State.mayReach_of_unobstructed hu
  show s.event (s.expires s.restartDeadline) State.softReset = _
  rw [he]
  exact State.event_running hr _

theorem exec_resetCondition_ends {s : State} {c : ResetCondition} (h : s.power.isPresent c = true) :
    exec (.resetCondition c false) s =
      .next { s with power := { s.power.setPresent c false with cause := causeOf c } } :=
  congrArg Host.Outcome.next (if_pos h)

/-- Settles O52: the soft reset and the three conditions by the state they hold the part in. -/
theorem resetsHoldThePart : Obligations.ResetsHoldThePart := by
  unfold Obligations.ResetsHoldThePart
  intro s held
  have soft : s.softReset = held { s.power with running := false, cause := .soft } := s.blocksAfterReset_eq _
  have arises (c : ResetCondition) : exec (.resetCondition c true) s =
      .next (held { s.power.setPresent c true with running := false }) :=
    congrArg Host.Outcome.next (s.blocksAfterReset_eq _)
  refine ⟨fun n hr ht hu => ?_, arises .power, arises .brownout, arises .pin, fun h => exec_resetCondition_ends h,
    fun h => exec_resetCondition_ends h, fun h => exec_resetCondition_ends h⟩
  rw [exec_restartLimitExpiry hr ht hu, soft]

end Sys2Proof.Machine
end

section
/-! TABLE_WRITE: the message of a checked write (R158, R160, R163); a latch octet that R131 refuses is taken. -/

namespace Sys2Proof.Machine

/-! ## A write that passes its checks (R163) -/

/-- R163: checks 2 to 6, of a table that may be written. -/
theorem tableWriteCheck_ok {table first count : Byte} {entries : List Byte} {t : TableId}
    (ht : TableId.ofCode table = some t) (hr : t.readOnly = false) (h1 : 1 ≤ count.toNat) (h8 : count.toNat ≤ 8)
    (hl : entries.length = count.toNat * t.entrySize) (hn : first.toNat + count.toNat ≤ t.entryCount)
    (hp : ∀ k, k < count.toNat → t.entryPasses (first.toNat + k) (entryAt t.entrySize entries k) = true) :
    tableWriteCheck table first count entries = .ok t := by
  have hcount : ¬(count = 0 ∨ 8 < count.toNat) := by
    rintro (e | e)
    · rw [e] at h1
      cases h1
    · omega
  have hall : (List.range count.toNat).all (fun k =>
      t.entryPasses (first.toNat + k) (entryAt t.entrySize entries k)) = true :=
    List.all_eq_true.2 fun k hk => hp k (List.mem_range.1 hk)
  rw [tableWriteCheck, ht]
  exact (if_neg (by simp [hr])).trans ((if_neg hcount).trans ((if_neg (not_not.2 hl)).trans
    ((if_neg (Nat.not_lt.2 hn)).trans (if_pos hall))))

/-- R163: a checked write to a table other than ASSOC_CONFIG: the entries, then the answer with the number that a clamp
changed. -/
theorem State.takeTableWrite_stored {s w : State} {via : Carrier} {tag table first count : Byte} {entries : List Byte}
    {t : TableId} {n : Nat} (hc : tableWriteCheck table first count entries = .ok t) (ht : t ≠ .assocConfig)
    (hw : s.writeEntries t first.toNat count.toNat entries = (w, n)) :
    s.takeTableWrite (tableWriteMessage via tag table first count entries) =
      w.answeredWith [0x83, tag, 0, 4, 0, table, first, count, BitVec.ofNat 8 n] false := by
  have hbody (i : Nat) : octetAt (tableWriteMessage via tag table first count entries).octets (4 + i) =
      octetAt (tableWriteBody table first count entries) i := octetAt_messageOctets_body _ _ _ i
  have htable : octetAt (tableWriteMessage via tag table first count entries).octets 4 = table := hbody 0
  have hfirst : octetAt (tableWriteMessage via tag table first count entries).octets 5 = first := hbody 1
  have hcount : octetAt (tableWriteMessage via tag table first count entries).octets 6 = count := hbody 2
  have hentries : (tableWriteMessage via tag table first count entries).octets.drop 8 = entries :=
    drop_messageOctets _ _ _ 4
  have hnamed : t.writtenAssocs first.toNat count.toNat = [] := if_neg ht
  rw [State.takeTableWrite]
  simp only [htable, hfirst, hcount, hentries, hc, hw, hnamed, if_true]
  rw [State.reply_eq, tableWriteMessage, octetAt_messageOctets_kind, octetAt_messageOctets_tag,
    answerOctets_short _ _ _ _ (by simp)]
  rfl

/-- R158, R163: a command that spells such a write. -/
theorem exec_tableWrite_stored {c : Instr} {s w : State} {via : Carrier} {tag table first count : Byte}
    {entries : List Byte} {t : TableId} {n : Nat}
    (hm : messageOf c = some (tableWriteMessage via tag table first count entries)) (h : s.Attentive)
    (hl : entries.length ≤ 504) (hc : tableWriteCheck table first count entries = .ok t) (ht : t ≠ .assocConfig)
    (hw : s.writeEntries t first.toNat count.toNat entries = (w, n)) (he : w.engine.current = s.engine.current)
    (hi : w.management.inbox = s.management.inbox) :
    exec c s = .next (w.answeredWith [0x83, tag, 0, 4, 0, table, first, count, BitVec.ofNat 8 n] false) := by
  have hbody : (tableWriteBody table first count entries).length = entries.length + 4 := by
    rw [tableWriteBody, List.length_append, Nat.add_comm]
    rfl
  have hallowed : MessageKind.tableWrite.allowsLength (tableWriteBody table first count entries).length = true :=
    (MessageKind.allowsLength_iff _ _).2 (.inr (.inr (.inl ⟨rfl, hbody ▸ Nat.le_add_left _ _⟩)))
  exact exec_handled hm rfl h (by omega) hallowed (State.takeTableWrite_stored hc ht hw) he hi

/-! ## The latch octet (R131, R163, R179) -/

/-- A part that takes a message at once and has room to answer it. -/
def attentivePart : State :=
  { State.reset with
    power := { State.reset.power with running := true }
    assocs := State.reset.assocs.set 0 { defaultAssoc 0 with state := .live }
    engine :=
      { State.reset.engine with
        current := some (.unwrap
          { target := 1, generation := 0, bank := .bankA, bankGeneration := 0, sequence := 1, wrapped := 0, wrapCheck := 0 }
          0 false) } }

theorem attentivePart_attentive : attentivePart.Attentive := ⟨⟨⟨rfl, rfl, rfl⟩, rfl, rfl⟩, rfl⟩

/-- A MONITOR entry whose latch octet is 2, which R179 gives no value; every other octet is one that R131 takes. -/
def uncodedLatchEntry : List Byte := [1, 1, 0, 0, 0, 0, 1, 1, 2, 0, 1, 0, 0, 0, 0, 0, 0, 0, 0, 1, 0, 0, 0, 0]

/-- The model reads the latch octet 2 as NONE: the last branch of `Latch.ofCode` is `some Latch.none`. -/
theorem uncodedLatchEntry_passes : tableWriteCheck 4 0 1 uncodedLatchEntry = .ok .monitor := rfl

/-- Refutes O43: R163 has a MONITOR entry with a latch octet of 2 answered BAD_VALUE; the model takes the octet as NONE,
stores the entry and answers DONE. -/
theorem not_tableWritesAreCheckedInOrder : ¬Obligations.TableWritesAreCheckedInOrder := by
  unfold Obligations.TableWritesAreCheckedInOrder
  intro h
  let via : Carrier := { bank := .bankA, generation := 1, sequence := 1 }
  let write : Instr := .tableWriteMonitor via 7 0 1 uncodedLatchEntry
  have refused : exec write attentivePart = .next (attentivePart.answeredWith [0x83, 7, 0, 0, 3] false) := by
    obtain ⟨-, short⟩ := h attentivePart via 7 4 0 1 uncodedLatchEntry write attentivePart_attentive
      (.inr (.inr (.inr (.inl ⟨rfl, rfl⟩))))
    obtain ⟨-, -, writable⟩ := short (by decide)
    obtain ⟨-, counted⟩ := writable 24 16 (by decide)
    obtain ⟨-, sized⟩ := counted (by decide) (by decide)
    obtain ⟨-, fitting⟩ := sized (by decide)
    obtain ⟨-, -, monitor⟩ := fitting (by decide)
    exact monitor rfl ⟨0, by decide, by decide⟩
  have stored := exec_tableWrite_stored (c := write) rfl attentivePart_attentive (by decide) uncodedLatchEntry_passes
    (by decide) rfl rfl rfl
  have answers : [([0x83, 7, 0, 4, 0, 4, 0, 1, 0] : List Byte)] = [[0x83, 7, 0, 0, 3]] :=
    congrArg (fun s => s.engine.outbound.map OutItem.plaintext) (Host.Outcome.next.inj (stored.symm.trans refused))
  exact absurd answers (by decide)

end Sys2Proof.Machine
end

section
/-! TABLE_WRITE to FLOW and to SETTINGS (R33, R163, R170, R177 to R179). -/

namespace Sys2Proof.Machine

/-! ## Flow Table entries (R33) -/

/-- R33, R179: a written Flow Table entry that passes: unchecked with valid = no, else by its lane match, action and
association. -/
theorem flowOfOctets_passes {e : List Byte}
    (h : octetAt e 0 = 0 ∨ (laneMatchCoded (word16At e 4) = true ∧ (octetAt e 1).toNat ≤ 1 ∧
      1 ≤ (octetAt e 2).toNat ∧ (octetAt e 2).toNat ≤ 31)) : (flowOfOctets e).passes = true := by
  have hact (o : Byte) (ho : o.toNat ≤ 1) : o = 0 ∨ o = 1 := by
    rw [← BitVec.toNat_inj, ← BitVec.toNat_inj]
    exact Nat.le_one_iff_eq_zero_or_eq_one.1 ho
  show (!flagOf (octetAt e 0) || (laneMatchCoded (word16At e 4) && (octetAt e 1 == 0 || octetAt e 1 == 1) &&
    decide (1 ≤ (octetAt e 2).toNat) && decide ((octetAt e 2).toNat ≤ 31))) = true
  simp only [flagOf, Bool.or_eq_true, Bool.and_eq_true, Bool.not_eq_true', bne_eq_false_iff_eq, beq_iff_eq,
    decide_eq_true_eq]
  exact h.imp_right fun ⟨hlane, haction, hlow, hhigh⟩ => ⟨⟨⟨hlane, hact _ haction⟩, hlow⟩, hhigh⟩

/-- R177: a 6-octet field is its six octets. -/
theorem word48At_eq (l : List Byte) (i : Nat) : word48At l i =
    octetAt l i ++ octetAt l (i + 1) ++ octetAt l (i + 2) ++ octetAt l (i + 3) ++ octetAt l (i + 4) ++
      octetAt l (i + 5) := by
  apply BitVec.eq_of_toNat_eq
  simp only [word48At, word32At, word16At, BitVec.toNat_append, Nat.shiftLeft_or_distrib, ← Nat.shiftLeft_add,
    Nat.or_assoc]

/-- R178: a flag octet that is not 0 is yes. -/
theorem flagOf_eq (o : Byte) : flagOf o = decide (o ≠ 0) := by
  rw [Bool.eq_iff_iff, flagOf, bne_iff_ne, decide_eq_true_eq]

/-- All Flow Table entries at once. -/
def State.withFlow (s : State) (f : Fin 48 → FlowEntry) : State := { s with flow := Vector.ofFn f }

theorem State.withFlow_self (s : State) : s.withFlow s.flowEntry = s := by
  have h : Vector.ofFn s.flowEntry = s.flow := Vector.ext fun i hi => by simp [State.flowEntry]
  rw [State.withFlow, h]

theorem State.withFlow_setFlow (s : State) (f : Fin 48 → FlowEntry) (p : Fin 48) (e : FlowEntry) :
    (s.withFlow f).setFlow p e = s.withFlow (Function.update f p e) := by
  have h : (Vector.ofFn f).set p e = Vector.ofFn (Function.update f p e) := Vector.ext fun i hi => by
    rw [Vector.getElem_set, Vector.getElem_ofFn, Vector.getElem_ofFn, Function.update_apply]
    exact if_congr (by rw [Fin.ext_iff, eq_comm]) rfl rfl
  rw [State.withFlow, State.withFlow, State.setFlow, h]

/-- The entries of the Flow Table once the `n` from position `first` on are written. -/
def State.flowWritten (s : State) (l : List Byte) (first n : Nat) (i : Fin 48) : FlowEntry :=
  if first ≤ i.val ∧ i.val < first + n then flowOfOctets (entryAt 20 l (i.val - first)) else s.flowEntry i

/-- One more entry is written. -/
theorem State.flowWritten_succ (s : State) (l : List Byte) {first n : Nat} (h : first + n < 48) :
    Function.update (s.flowWritten l first n) ⟨first + n, h⟩ (flowOfOctets (entryAt 20 l n)) =
      s.flowWritten l first (n + 1) := by
  funext i
  rw [Function.update_apply]
  by_cases hi : i.val = first + n
  · rw [if_pos (Fin.ext hi), State.flowWritten, if_pos (by omega), hi, Nat.add_sub_cancel_left]
  · rw [if_neg (fun e => hi (congrArg Fin.val e))]
    exact if_congr (by omega) rfl rfl

/-- R33, R163: a checked write to FLOW; no clamp changes a value. -/
theorem State.writeEntries_flow (s : State) (l : List Byte) {first n : Nat} (h : first + n ≤ 48) :
    s.writeEntries .flow first n l = (s.withFlow (s.flowWritten l first n), 0) := by
  induction n with
  | zero =>
    have hnone : s.flowWritten l first 0 = s.flowEntry := funext fun i => if_neg (by omega)
    rw [hnone, State.withFlow_self]
    rfl
  | succ n ih =>
    have hstep : s.writeEntries .flow first (n + 1) l =
        writeFlowEntry (s.writeEntries .flow first n l) (first + n) (entryAt 20 l n) := by
      rw [State.writeEntries, List.range_succ, List.foldl_append]
      rfl
    rw [hstep, ih (by omega), writeFlowEntry, dif_pos (by omega), State.withFlow_setFlow, State.flowWritten_succ]

/-! ## The Settings record (R170) -/

/-- R170: the clamped burst limit lies in 1 to 8, and one in range stays. -/
theorem clampedBurst_eq (o : Byte) : (if o = 0 then 1 else if 8 < o.toNat then 8 else o : Byte) =
    BitVec.ofNat 8 (max 1 (min 8 o.toNat)) := by
  have hzero : o = 0 ↔ o.toNat = 0 := (BitVec.toNat_inj (y := (0 : Byte))).symm
  split_ifs with h0 h8
  · rw [hzero.1 h0]
    rfl
  · rw [Nat.min_eq_left (Nat.le_of_lt h8)]
    rfl
  · have hr : max 1 (min 8 o.toNat) = o.toNat := by rw [hzero] at h0; omega
    rw [hr, BitVec.ofNat_toNat, BitVec.setWidth_eq]

/-- R170: the clamped ack timeout is at least 1, and one in range stays. -/
theorem clampedTimeout_eq (o : Byte) : (if o = 0 then 1 else o : Byte) = BitVec.ofNat 8 (max 1 o.toNat) := by
  have hzero : o = 0 ↔ o.toNat = 0 := (BitVec.toNat_inj (y := (0 : Byte))).symm
  split_ifs with h0
  · rw [hzero.1 h0]
    rfl
  · have hr : max 1 o.toNat = o.toNat := by rw [hzero] at h0; omega
    rw [hr, BitVec.ofNat_toNat, BitVec.setWidth_eq]

theorem clampSettings_eq (c : Settings) : clampSettings c =
    { burstLimit := BitVec.ofNat 8 (max 1 (min 8 c.burstLimit.toNat))
      ackTimeout := BitVec.ofNat 8 (max 1 c.ackTimeout.toNat), reportPacing := c.reportPacing } := by
  rw [← clampedBurst_eq, ← clampedTimeout_eq]
  rfl

/-- R170: a clamp changes a value exactly when the burst limit or the ack timeout is out of range. -/
theorem clampSettings_eq_self_iff (c : Settings) :
    clampSettings c = c ↔ ¬(c.burstLimit = 0 ∨ 8 < c.burstLimit.toNat ∨ c.ackTimeout = 0) := by
  have hself : clampSettings c = c ↔
      (if c.burstLimit = 0 then 1 else if 8 < c.burstLimit.toNat then 8 else c.burstLimit) = c.burstLimit ∧
        (if c.ackTimeout = 0 then 1 else c.ackTimeout) = c.ackTimeout := by
    obtain ⟨burst, timeout, pacing⟩ := c
    simp [clampSettings]
  rw [hself]
  constructor
  · rintro ⟨hb, ht⟩ (h | h | h)
    · simp [h] at hb
    · have hne : c.burstLimit ≠ 0 := fun e => absurd (e ▸ h : 8 < (0 : Byte).toNat) (by decide)
      rw [if_neg hne, if_pos h] at hb
      exact absurd (hb ▸ h : 8 < (8 : Byte).toNat) (by decide)
    · simp [h] at ht
  · intro h
    simp only [not_or] at h
    rw [if_neg h.1, if_neg h.2.1, if_neg h.2.2]
    exact ⟨rfl, rfl⟩

/-- R170: a write to SETTINGS. -/
theorem State.writeEntries_settings (s : State) {e : List Byte} (h : e.length = 8) :
    s.writeEntries .settings 0 1 e =
      (s.modManagement (fun m => { m with settings := clampSettings (settingsOfOctets e) }),
        if clampSettings (settingsOfOctets e) = settingsOfOctets e then 0 else 1) := by
  have he : entryAt 8 e 0 = e := List.take_of_length_le (Nat.le_of_eq h)
  show writeSettingsEntry (s, 0) (entryAt 8 e 0) = _
  rw [he]
  rfl

/-- Settles O44: the entries that a checked write stores, and its answer. -/
theorem flowAndSettingsWritesStore : Obligations.FlowAndSettingsWritesStore := by
  unfold Obligations.FlowAndSettingsWritesStore
  refine ⟨?flow, ?settings⟩
  case flow =>
    intro s via tag first count entries h h1 h8 hl hn hpasses stored
    have hcheck : tableWriteCheck 1 first count entries = .ok .flow :=
      tableWriteCheck_ok rfl rfl h1 h8 (hl.trans (Nat.mul_comm _ _)) hn fun k hk => flowOfOctets_passes (hpasses k hk)
    have hstored : flowOfOctets = stored := funext fun e => by
      rw [flowOfOctets, word48At_eq, flagOf_eq, flagOf_eq, flagOf_eq]
      rfl
    rw [← hstored]
    exact exec_tableWrite_stored (c := .tableWriteFlow via tag first count entries) rfl h (by omega) hcheck (by decide)
      (s.writeEntries_flow entries hn) rfl rfl
  case settings =>
    intro s via tag e h hl burst timeout
    have hcheck : tableWriteCheck 6 0 1 e = .ok .settings :=
      tableWriteCheck_ok rfl rfl (by decide) (by decide) hl (by decide) fun _ _ => rfl
    have hchanged : BitVec.ofNat 8 (if clampSettings (settingsOfOctets e) = settingsOfOctets e then 0 else 1) =
        if burst = 0 ∨ 8 < burst.toNat ∨ timeout = 0 then 1 else 0 := by
      rw [apply_ite (BitVec.ofNat 8), if_congr (clampSettings_eq_self_iff _) rfl rfl, ite_not]
      rfl
    have hrun := exec_tableWrite_stored (c := .tableWriteSettings via tag 0 1 e) rfl h (by omega) hcheck (by decide)
      (s.writeEntries_settings hl) rfl rfl
    rw [hchanged, clampSettings_eq] at hrun
    exact hrun

end Sys2Proof.Machine
end

section
/-! The receive window (R54, R55). -/

namespace Sys2Proof.Machine

/-- R54: a sequence above H, or one of the 64 up to H that is not in the seen-set. -/
theorem Bank.accepts_iff (k : Bank) (r : W32) : k.accepts r = true ↔
    k.highest.toNat < r.toNat ∨
      (k.highest.toNat < r.toNat + 64 ∧ k.seen.getLsbD (k.highest.toNat - r.toNat) = false) := by
  unfold Bank.accepts
  split
  · simp [*]
  · rw [Bool.and_eq_true, decide_eq_true_eq, Bool.not_eq_true']
    constructor
    · rintro ⟨hw, hs⟩
      exact .inr ⟨by omega, hs⟩
    · rintro (h | ⟨hw, hs⟩)
      · contradiction
      · exact ⟨by omega, hs⟩

theorem Bank.accepts_above {k : Bank} {r : W32} (h : k.highest.toNat < r.toNat) : k.accepts r = true :=
  (k.accepts_iff r).2 (.inl h)

theorem Bank.accepts_below {k : Bank} {r : W32} (h : r.toNat + 64 ≤ k.highest.toNat) : k.accepts r = false := by
  rw [Bool.eq_false_iff, Ne, Bank.accepts_iff]
  omega

theorem Bank.accepts_within {k : Bank} {r : W32} (hr : r.toNat ≤ k.highest.toNat)
    (hw : k.highest.toNat < r.toNat + 64) :
    k.accepts r = !k.seen.getLsbD (k.highest.toNat - r.toNat) := by
  rw [Bool.eq_iff_iff, Bank.accepts_iff, Bool.not_eq_true']
  exact ⟨fun h => (h.resolve_left (by omega)).2, fun h => .inr ⟨hw, h⟩⟩

/-- R55: H becomes the greater of itself and the marked sequence. -/
theorem Bank.mark_highest (k : Bank) (q : W32) :
    (k.mark q).highest.toNat = max k.highest.toNat q.toNat := by
  unfold Bank.mark
  split
  · exact (max_eq_right_of_lt ‹_›).symm
  · exact (max_eq_left (Nat.not_lt.1 ‹_›)).symm

theorem getLsbD_one_of_pos {i : Nat} (h : 0 < i) : (1 : BitVec 64).getLsbD i = false := by
  have hone : (1#64).getLsbD i = false := by
    rw [BitVec.getLsbD_one, decide_eq_false (Nat.ne_of_gt h), Bool.and_false]
  exact hone

/-- R55: the seen-set after a sequence above H: it moves up to the new H, which joins it. -/
theorem Bank.mark_seen_above {k : Bank} {q : W32} (h : k.highest.toNat < q.toNat) {i : Nat} (h0 : 0 < i) (hi : i < 64) :
    (k.mark q).seen.getLsbD i =
      (decide (q.toNat - k.highest.toNat ≤ i) && k.seen.getLsbD (i - (q.toNat - k.highest.toNat))) := by
  rw [Bank.mark, if_pos h, BitVec.getLsbD_or, getLsbD_one_of_pos h0, BitVec.getLsbD_shiftLeft, decide_eq_true hi,
    Bool.or_false, Bool.true_and, ← decide_not, decide_eq_decide.2 Nat.not_lt]

/-- R55: the seen-set after a sequence that is not above H: that sequence joins it. -/
theorem Bank.mark_seen_within {k : Bank} {q : W32} (h : q.toNat ≤ k.highest.toNat) {i : Nat}
    (hq : i ≠ k.highest.toNat - q.toNat) : (k.mark q).seen.getLsbD i = k.seen.getLsbD i := by
  have hjoins : ((1 : BitVec 64) <<< (k.highest.toNat - q.toNat)).getLsbD i = false := by
    rw [BitVec.getLsbD_shiftLeft]
    rcases Nat.lt_or_ge i (k.highest.toNat - q.toNat) with hi | hi
    · rw [decide_eq_true hi, Bool.not_true, Bool.and_false, Bool.false_and]
    · rw [getLsbD_one_of_pos (by omega), Bool.and_false]
  rw [Bank.mark, if_neg (Nat.not_lt.2 h), BitVec.getLsbD_or, hjoins, Bool.or_false]

/-- R55: the marking of a sequence leaves the decision of every other that is still in the window. -/
theorem Bank.mark_accepts_other {k : Bank} {q r : W32} (hne : r ≠ q) (hw : (k.mark q).highest.toNat < r.toNat + 64) :
    (k.mark q).accepts r = k.accepts r := by
  have hne : r.toNat ≠ q.toNat := mt BitVec.eq_of_toNat_eq hne
  have hmark := k.mark_highest q
  rcases Nat.lt_or_ge (k.mark q).highest.toNat r.toNat with hr | hr
  · rw [Bank.accepts_above hr, Bank.accepts_above (by omega)]
  rw [Bank.accepts_within hr hw]
  rcases Nat.lt_or_ge k.highest.toNat q.toNat with hq | hq
  · rw [Bank.mark_seen_above hq (by omega) (by omega)]
    rcases Nat.lt_or_ge k.highest.toNat r.toNat with hk | hk
    · rw [Bank.accepts_above hk, decide_eq_false (by omega)]
      rfl
    · rw [Bank.accepts_within hk (by omega), decide_eq_true (by omega), Bool.true_and]
      congr 2
      omega
  · rw [Bank.mark_seen_within hq (by omega), Bank.accepts_within (by omega) (by omega)]
    congr 2
    omega

/-- Law 4: what is refused before a marking is refused after it. -/
theorem Bank.accepts_of_mark {k : Bank} {q r : W32} (hq : k.accepts q = true) (h : (k.mark q).accepts r = true) :
    k.accepts r = true := by
  by_cases hne : r = q
  · rw [hne]
    exact hq
  rcases Nat.lt_or_ge (k.mark q).highest.toNat (r.toNat + 64) with hw | hw
  · rw [← Bank.mark_accepts_other hne hw]
    exact h
  · rw [Bank.accepts_below hw] at h
    contradiction

/-- Settles O12: each clause is a rule of the window, `accepts_of_mark` resting on `mark_accepts_other`. -/
theorem receiveWindowNeverAcceptsTwice : Obligations.ReceiveWindowNeverAcceptsTwice := by
  unfold Obligations.ReceiveWindowNeverAcceptsTwice
  intro k q hq
  have hmark := k.mark_highest q
  exact ⟨Bank.mark_accepts hq, by omega, hmark, fun _ => Bank.accepts_of_mark hq, fun _ => Bank.accepts_above,
    fun _ => Bank.accepts_below, fun r hr hw => by rw [Bank.accepts_within hr hw, Bool.not_eq_true'],
    fun _ => Bank.mark_accepts_other⟩

end Sys2Proof.Machine
end

section
/-! The send attempt of the Fault Report Queue (R147 to R149). -/

namespace Sys2Proof.Machine

/-! ## The record to offer (R148) -/

/-- The highest severity, started from `m`: no UNSENT record's lies above it, and it is `m` or an UNSENT record's. -/
theorem foldl_highest (l : List ReportRecord) (m : Nat) :
    let top := l.foldl (fun m r => if r.state = .unsent then max m r.severity.toNat else m) m
    m ≤ top ∧ (∀ y ∈ l, y.state = .unsent → y.severity.toNat ≤ top) ∧
      (top = m ∨ ∃ y ∈ l, y.state = .unsent ∧ y.severity.toNat = top) := by
  induction l generalizing m with
  | nil => exact ⟨le_rfl, nofun, .inl rfl⟩
  | cons x l ih =>
    obtain ⟨hm, hl, htop⟩ := ih (if x.state = .unsent then max m x.severity.toNat else m)
    have hattained : ∀ n, (∃ y ∈ l, y.state = .unsent ∧ y.severity.toNat = n) →
        ∃ y ∈ x :: l, y.state = .unsent ∧ y.severity.toNat = n :=
      fun n ⟨y, hy, h⟩ => ⟨y, List.mem_cons_of_mem _ hy, h⟩
    rw [List.foldl_cons]
    by_cases hx : x.state = .unsent
    · rw [if_pos hx] at hm hl htop ⊢
      refine ⟨(le_max_left _ _).trans hm, List.forall_mem_cons.2 ⟨fun _ => (le_max_right _ _).trans hm, hl⟩, ?_⟩
      rcases htop with e | h
      · rcases max_choice m x.severity.toNat with hc | hc
        · exact .inl (e.trans hc)
        · exact .inr ⟨x, List.mem_cons_self, hx, (e.trans hc).symm⟩
      · exact .inr (hattained _ h)
    · rw [if_neg hx] at hm hl htop ⊢
      exact ⟨hm, List.forall_mem_cons.2 ⟨fun h => absurd h hx, hl⟩, htop.imp_right (hattained _)⟩

theorem severity_le_topSeverity {l : List ReportRecord} {y : ReportRecord} (hy : y ∈ l) (hu : y.state = .unsent) :
    y.severity.toNat ≤ topSeverity l := (foldl_highest l 0).2.1 y hy hu

theorem topSeverity_attained {l : List ReportRecord} (h : ∃ y ∈ l, y.state = .unsent) :
    ∃ y ∈ l, y.state = .unsent ∧ y.severity.toNat = topSeverity l := by
  obtain ⟨y, hy, hu⟩ := h
  rcases (foldl_highest l 0).2.2 with h0 | h
  · have hle := severity_le_topSeverity hy hu
    have h0 : topSeverity l = 0 := h0
    exact ⟨y, hy, hu, by omega⟩
  · exact h

theorem topSeverity_eq {l : List ReportRecord} {x : ReportRecord} (hx : x ∈ l) (hu : x.state = .unsent)
    (hmax : ∀ y ∈ l, y.state = .unsent → y.severity.toNat ≤ x.severity.toNat) : topSeverity l = x.severity.toNat := by
  obtain ⟨y, hy, hyu, htop⟩ := topSeverity_attained ⟨x, hx, hu⟩
  exact (htop ▸ hmax y hy hyu).antisymm (severity_le_topSeverity hx hu)

theorem offerTest_iff (l : List ReportRecord) (r : ReportRecord) :
    offerTest l r = true ↔ r.state = .unsent ∧ r.severity.toNat = topSeverity l := by
  simp [offerTest]

/-- R147: there is a record to offer when some record is UNSENT. -/
theorem find_offerTest_eq_none {l : List ReportRecord} :
    l.find? (offerTest l) = none ↔ ∀ y ∈ l, y.state ≠ .unsent := by
  simp only [List.find?_eq_none, offerTest_iff]
  constructor
  · intro h y hy hu
    obtain ⟨z, hz, htop⟩ := topSeverity_attained ⟨y, hy, hu⟩
    exact h z hz htop
  · exact fun h y hy ⟨hu, _⟩ => h y hy hu

/-- R148: the oldest UNSENT record of the highest severity is the first that passes the test. -/
theorem offerTest_oldest {l l₁ l₂ : List ReportRecord} {x : ReportRecord} (hl : l = l₁ ++ x :: l₂)
    (hu : x.state = .unsent) (hmax : ∀ y ∈ l, y.state = .unsent → y.severity.toNat ≤ x.severity.toNat)
    (hold : ∀ y ∈ l₁, y.state = .unsent → y.severity.toNat < x.severity.toNat) :
    offerTest l x = true ∧ ∀ y ∈ l₁, (!offerTest l y) = true := by
  have htop : topSeverity l = x.severity.toNat := topSeverity_eq (by simp [hl]) hu hmax
  refine ⟨(offerTest_iff l x).2 ⟨hu, htop.symm⟩, fun y hy => ?_⟩
  rw [Bool.not_eq_true', Bool.eq_false_iff, Ne, offerTest_iff, htop]
  exact fun ⟨hyu, he⟩ => (hold y hy hyu).ne he

/-- The first record that satisfies a test is the one that changes. -/
theorem modifyFirst_append {p : ReportRecord → Bool} (f : ReportRecord → ReportRecord) {l₁ l₂ : List ReportRecord}
    {x : ReportRecord} (hp : p x = true) (hold : ∀ y ∈ l₁, (!p y) = true) :
    modifyFirst p f (l₁ ++ x :: l₂) = l₁ ++ f x :: l₂ := by
  induction l₁ with
  | nil => exact if_pos hp
  | cons y l₁ ih =>
    obtain ⟨hy, hold⟩ := List.forall_mem_cons.1 hold
    rw [List.cons_append, modifyFirst, if_neg (by simpa using hy), ih hold]
    rfl

/-! ## The offer (R148) -/

/-- R148: the octets of a FAULT_REPORT. -/
theorem faultReportOctets_eq (r : ReportRecord) (dropped : Byte) : faultReportOctets r dropped =
    [0x60, 0, 0, 24] ++ word 2 r.number ++ [r.kind.code, r.severity, r.source.code, r.resendCount, dropped, 0] ++
      word 2 r.occurrences ++ [0, 0] ++ word 4 r.firstTime ++ word 4 r.lastTime ++ word 4 (r.value.getD 0) := by
  rw [faultReportOctets, messageOctets_eq]
  simp only [List.length_append, length_word, List.length_cons, List.length_nil, List.append_assoc]
  rfl

/-- R148: a record offered at a reading of the millisecond count. -/
def ReportRecord.offeredAt (r : ReportRecord) (s : State) : ReportRecord :=
  { r with
    state := .inFlight
    ackDeadline := some (s.time.milliseconds + 100 * s.management.settings.ackTimeout.toNat) }

/-- R148: what an offer of the first record that passes the test comes to. -/
theorem State.offerReport_eq {s : State} {x : ReportRecord} {l₁ l₂ : List ReportRecord}
    (hl : s.reports.records = l₁ ++ x :: l₂) (hx : offerTest s.reports.records x = true)
    (hold : ∀ y ∈ l₁, (!offerTest s.reports.records y) = true) :
    s.offerReport x =
      { s with
        engine :=
          { s.engine with
            outbound := s.engine.outbound ++
              [{ assoc := 0, plaintext := faultReportOctets x s.reports.dropped, restartMark := false
                 setsMark := false }] }
        reports :=
          { s.reports with
            records := l₁ ++ x.offeredAt s :: l₂
            dropped := 0
            pacingDeadline :=
              if s.management.settings.reportPacing = 0 then s.reports.pacingDeadline
              else some (s.time.milliseconds + 10 * s.management.settings.reportPacing.toNat)
            retryDeadline := none } } := by
  rw [← modifyFirst_append (fun r => r.offeredAt s) hx hold, ← hl]
  rfl

/-- R147, R148: an offer leaves one more record IN_FLIGHT. -/
theorem State.inFlightCount_offerReport {s : State} {x : ReportRecord}
    (hf : s.reports.records.find? (offerTest s.reports.records) = some x) :
    inFlightCount (s.offerReport x).reports.records = inFlightCount s.reports.records + 1 := by
  obtain ⟨hx, l₁, l₂, hl, hold⟩ := List.find?_eq_some_iff_append.1 hf
  have hu : x.state = .unsent := ((offerTest_iff _ _).1 hx).1
  rw [State.offerReport_eq hl hx hold, hl]
  simp [inFlightCount, ReportRecord.offeredAt, hu]
  omega

/-! ## The attempt (R147) -/

/-- R41. -/
theorem State.controlRoom_iff (s : State) :
    s.controlRoom = true ↔ s.engine.outbound.length < 16 ∧ s.sendQueue.taken < 32 := by
  rw [State.controlRoom, Bool.and_eq_true, decide_eq_true_eq, decide_eq_true_eq]

/-- R147: with 4 records IN_FLIGHT or while pacing runs an attempt ends the retry timer (log entry 15). -/
theorem State.attemptSend_withheld {s : State} (n : Nat)
    (h : 4 ≤ inFlightCount s.reports.records ∨ s.reports.pacingDeadline.isSome = true) :
    s.attemptSend (n + 1) = s.modReports (fun q => { q with retryDeadline := none }) := by
  cases hf : s.reports.records.find? (offerTest s.reports.records) with
  | none => exact State.attemptSend_none n hf
  | some r =>
    rw [State.attemptSend, hf]
    exact if_pos h

/-- R147: an attempt that lacks control room alone starts the retry timer, or leaves it running. -/
theorem State.attemptSend_roomless {s : State} {r : ReportRecord} (n : Nat)
    (hf : s.reports.records.find? (offerTest s.reports.records) = some r) (h4 : inFlightCount s.reports.records < 4)
    (hp : s.reports.pacingDeadline = none) (hc : ¬s.controlRoom = true) :
    s.attemptSend (n + 1) =
      s.modReports (fun q => { q with retryDeadline := q.retryDeadline.or (some (s.time.milliseconds + 10)) }) := by
  have hn : ¬(4 ≤ inFlightCount s.reports.records ∨ s.reports.pacingDeadline.isSome = true) := by
    rw [hp, not_or]
    exact ⟨Nat.not_le.2 h4, Bool.false_ne_true⟩
  rw [State.attemptSend, hf]
  refine (if_neg hn).trans ((if_neg hc).trans ?_)
  rw [State.modReports, State.modReports]
  cases s.reports.retryDeadline <;> rfl

/-- R147: at most 4 offers follow one another, so that fuel for them and the test that ends them is enough. -/
theorem State.attemptSend_fuel {s : State} {n : Nat} (h0 : 0 < n) (h : 5 ≤ n + inFlightCount s.reports.records) :
    s.attemptSend n = s.attemptSend (n + 1) := by
  induction n generalizing s with
  | zero => contradiction
  | succ n ih =>
    cases hf : s.reports.records.find? (offerTest s.reports.records) with
    | none => rw [State.attemptSend_none n hf, State.attemptSend_none (n + 1) hf]
    | some r =>
      by_cases hw : 4 ≤ inFlightCount s.reports.records ∨ s.reports.pacingDeadline.isSome = true
      · rw [State.attemptSend_withheld n hw, State.attemptSend_withheld (n + 1) hw]
      obtain ⟨h4, hp⟩ := not_or.1 hw
      have hp : s.reports.pacingDeadline = none := by simpa using hp
      by_cases hc : s.controlRoom = true
      · rw [State.attemptSend_offers n hf (by omega) hp hc, State.attemptSend_offers (n + 1) hf (by omega) hp hc]
        have hcount := State.inFlightCount_offerReport hf
        exact ih (by omega) (by omega)
      · rw [State.attemptSend_roomless n hf (by omega) hp hc, State.attemptSend_roomless (n + 1) hf (by omega) hp hc]

/-- R147, R149: an attempt whose conditions hold offers the chosen record, and is followed by the next. -/
theorem State.sendAttempt_offers {s : State} {r : ReportRecord}
    (hf : s.reports.records.find? (offerTest s.reports.records) = some r) (h4 : inFlightCount s.reports.records < 4)
    (hp : s.reports.pacingDeadline = none) (hc : s.controlRoom = true) :
    s.sendAttempt = (s.offerReport r).sendAttempt := by
  have hcount := State.inFlightCount_offerReport hf
  exact (State.attemptSend_offers 4 hf h4 hp hc).trans (State.attemptSend_fuel (by omega) (by omega))

/-- Settles O59: an attempt offers nothing, waits for room, or offers the first record that passes and goes on. -/
theorem sendAttemptOffersTheOldestOfTheHighest : Obligations.SendAttemptOffersTheOldestOfTheHighest := by
  unfold Obligations.SendAttemptOffersTheOldestOfTheHighest
  intro s q ms retry room
  refine ⟨?nothing, fun hunsent h4 hp => ⟨fun hroom => ?roomless, fun hroom l₁ l₂ x hl hu hmax hold => ?offers⟩⟩
  case nothing =>
    rintro (hnone | hwithheld)
    · exact State.attemptSend_none 4 (find_offerTest_eq_none.2 hnone)
    · exact State.attemptSend_withheld 4 hwithheld
  case roomless =>
    obtain ⟨r, hr⟩ : ∃ r, q.records.find? (offerTest q.records) = some r := by
      rw [← Option.ne_none_iff_exists', Ne, find_offerTest_eq_none]
      exact fun hnone => hunsent.elim fun y ⟨hy, hu⟩ => hnone y hy hu
    exact State.attemptSend_roomless 4 hr h4 hp (mt s.controlRoom_iff.1 hroom)
  case offers =>
    intro message offered
    obtain ⟨hx, hearlier⟩ := offerTest_oldest hl hu hmax hold
    have hnext := State.sendAttempt_offers (List.find?_eq_some_iff_append.2 ⟨hx, l₁, l₂, hl, hearlier⟩) h4 hp
      (s.controlRoom_iff.2 hroom)
    rw [State.offerReport_eq hl hx hearlier, faultReportOctets_eq, show s.reports.pacingDeadline = none from hp]
      at hnext
    refine ⟨fun hpacing => ?paced, fun hpacing => ?unpaced⟩
    case paced =>
      rw [hnext, if_neg hpacing]
      exact State.attemptSend_withheld 4 (.inr rfl)
    case unpaced =>
      rw [hnext, if_pos hpacing]
      rfl

end Sys2Proof.Machine
end

section
/-! The state after reset and the invariants of Safety. -/

namespace Sys2Proof.Machine

/-- R61, R78, R79, R156, R169: the queues and buffers are empty after reset. -/
theorem State.reset_withinCapacities : State.reset.WithinCapacities := by
  constructor <;> exact Nat.zero_le _

theorem State.reset_assocsSound : State.reset.AssocsSound := fun a => by
  rw [State.assoc_reset]
  exact defaultAssoc_sound a

/-- R156: the Fault Report Queue after reset holds no record. -/
theorem defaultReports_lawful : defaultReports.Lawful := ⟨Nat.zero_le _, Nat.zero_le _, .nil⟩

theorem defaultReports_numbered : defaultReports.Numbered := ⟨by decide, nofun⟩

/-- R172: no deadline lies below the readings after reset, which are 0. -/
theorem State.reset_timely : State.reset.Timely where
  timers := fun c h => by
    obtain ⟨d, _, hd⟩ | ⟨d, _, hd⟩ := State.passed_iff.1 h
    · exact Nat.not_lt_zero d hd
    · exact Nat.not_lt_zero d hd
  clock := fun t _ => Nat.zero_le t

/-- Settles O9: a held part with empty queues, default associations and both counts at 0. -/
theorem resetKeepsTheInvariants : Obligations.ResetKeepsTheInvariants :=
  ⟨State.reset_withinCapacities, State.reset_assocsSound, nofun, defaultReports_lawful, defaultReports_numbered,
    ⟨Nat.le_refl 0, .inl (by decide)⟩, State.reset_timely⟩

end Sys2Proof.Machine
end

section
/-! The cost of the work items (R45). -/

namespace Sys2Proof.Machine

/-- R45: n is L/16 rounded up. -/
theorem blockCount_spec (l : Nat) : l ≤ 16 * blockCount l ∧ 16 * blockCount l < l + 16 := by
  unfold blockCount
  omega

theorem length_textBlocks (text : List Byte) : (textBlocks text).length = blockCount text.length := by
  rw [textBlocks, List.length_map, List.length_range]

@[simp] theorem length_blockOctets (b : Block) : (blockOctets b).length = 16 := length_word 16 b

theorem length_keystream (k : Key) (c : AssocId) (d : Byte) (g : W16) (q : W32) (n : Nat) :
    (keystream k c d g q n).length = 16 * n := by
  simp [keystream, List.length_flatMap, Nat.mul_comm]

/-- Settles O11: the rounding of `blockCount`, and the lists of blocks one for each index below it. -/
theorem itemCost : Obligations.ItemCost :=
  ⟨fun l => ⟨rfl, blockCount_spec l⟩, length_textBlocks, length_keystream, rfl, rfl, rfl, rfl, rfl, rfl, rfl, rfl⟩

end Sys2Proof.Machine
end

section
/-! An arrival at the Trunk Receiver that passes every test (R66, R69 to R76). -/

namespace Sys2Proof.Machine

/-! ## The check (R66) -/

/-- R66: one bit into the register, in the words of `trunkRegister`. -/
theorem trunkCheckBit_eq (r : W16) (b : Bool) :
    trunkCheckBit r b = (r <<< 1) ^^^ (if r.getLsbD 15 = b then 0 else 0x1021) := by
  have hmsb : r.msb = r.getLsbD 15 := rfl
  unfold trunkCheckBit
  rw [hmsb]
  cases r.getLsbD 15 <;> cases b <;> simp

theorem trunkCheck_eq (l : List Byte) : trunkCheck l = ~~~ trunkRegister l := by
  have hoctet (r : W16) (o : Byte) : trunkCheckOctet r o = (List.range 8).foldl
      (fun (r : W16) i => (r <<< 1) ^^^ (if r.getLsbD 15 = o.getLsbD (7 - i) then 0 else 0x1021)) r := by
    refine List.foldl_ext _ _ _ fun r i hi => ?_
    rw [trunkCheckBit_eq, BitVec.getMsbD, decide_eq_true (List.mem_range.1 hi), Bool.true_and]
  rw [trunkCheck, trunkRegister]
  exact congrArg _ (List.foldl_ext _ _ _ fun r o _ => hoctet r o)

/-- R177: a 2-octet field determines the octets it is carried in, and they it. -/
theorem word_two_inj {x y : W16} : word 2 x = word 2 y ↔ x = y := by
  refine ⟨fun h => ?_, congrArg _⟩
  rw [← word16At_word x [], ← word16At_word y [], h]

/-- The last two of the stored octets. -/
theorem drop_length_sub_two {c : List Byte} (h : 2 ≤ c.length) :
    c.drop (c.length - 2) = [octetAt c (c.length - 2), octetAt c (c.length - 1)] := by
  have h1 : c.length - 2 + 1 = c.length - 1 := by omega
  rw [List.drop_eq_getElem_cons (by omega), List.drop_eq_getElem_cons (by omega), List.drop_eq_nil_of_le (by omega)]
  simp [octetAt, h1, List.getElem?_eq_getElem (show c.length - 2 < c.length by omega),
    List.getElem?_eq_getElem (show c.length - 1 < c.length by omega)]

/-- R66, R69: test 1 in the words of Safety. -/
theorem trunkCheckPasses_iff {c : List Byte} (h : 2 ≤ c.length) : trunkCheckPasses c = true ↔ CheckHolds c := by
  have hnext : c.length - 2 + 1 = c.length - 1 := by omega
  have hlast : c.drop (c.length - 2) = word 2 (word16At c (c.length - 2)) := by
    rw [drop_length_sub_two h, word_word16At, hnext]
  rw [trunkCheckPasses, trunkCheckOctets, beq_iff_eq, hlast, word_two_inj, trunkCheck_eq, CheckHolds, word16At, hnext,
    eq_comm]

/-! ## The form (R70) -/

theorem word32At_eq_zero (l : List Byte) (i : Nat) : word32At l i = 0 ↔
    octetAt l i = 0 ∧ octetAt l (i + 1) = 0 ∧ octetAt l (i + 2) = 0 ∧ octetAt l (i + 3) = 0 := by
  have h32 : (0 : W32).toNat = 0 := rfl
  have h8 : (0 : Byte).toNat = 0 := rfl
  simp only [← BitVec.toNat_inj, word32At_eq, toNat_append_mul, h32, h8]
  omega

/-- R70: test 2 in the words of Safety. -/
theorem formPasses_iff (c : List Byte) : formPasses c = true ↔ FormHolds c := by
  have hlength : lengthOf c = (octetAt c 8).toNat * 256 + (octetAt c 9).toNat := word16At_toNat c 8
  simp only [formPasses, Bool.and_eq_true, beq_iff_eq, bne_iff_ne, decide_eq_true_eq, hlength, sequenceOf, Ne,
    word32At_eq_zero]
  exact ⟨fun ⟨⟨⟨hkind, hseq⟩, hmax⟩, hstored⟩ => ⟨hkind, hseq, hmax, hstored⟩,
    fun ⟨hkind, hseq, hmax, hstored⟩ => ⟨⟨⟨hkind, hseq⟩, hmax⟩, hstored⟩⟩

/-! ## The tests against the state (R71 to R76) -/

theorem AssocState.receives_iff (w : AssocState) : w.receives = true ↔ w = .live ∨ w = .pending := by
  cases w <;> simp [AssocState.receives]

/-- R74: the bank that qualifies, bank A where law 5 is broken and both do. -/
theorem Assoc.bankFor_eq_some {r : Assoc} {b : BankId} {g : W16} (h : (r.bank b).Qualifies g)
    (hfirst : ¬(b = .bankB ∧ (r.bank .bankA).Qualifies g)) : r.bankFor g = some b := by
  have hb : (r.bank b).usableFor g = true := (Bank.usableFor_iff _ _).2 h
  cases b with
  | bankA => exact if_pos hb
  | bankB =>
    have ha : ¬r.bankA.usableFor g = true := fun ha => hfirst ⟨rfl, (Bank.usableFor_iff _ _).1 ha⟩
    exact (if_neg ha).trans (if_pos hb)

/-- R69 to R73: a frame that passes the first six tests comes to the tests of its bank. -/
theorem State.trunkFrame_forBank {s : State} {c : List Byte} (hcheck : trunkCheckPasses c = true)
    (hform : formPasses c = true)
    (hown : destinationOf c = s.identity.station.toNat ∨ destinationOf c = 15 ∧ channelOf c ≠ 0)
    (hservice : channelOf c = 0 ∨ s.management.serviceOn = true)
    (hstate : (s.assoc (channelOf c)).state = .live ∨ (s.assoc (channelOf c)).state = .pending)
    (hdir : (s.assoc (channelOf c)).direction ≠ .outbound) : s.trunkFrame c = s.frameForBank c := by
  have hbroadcast : s.identity.station.toNat ≠ 15 := by have := s.identity.station.isLt; omega
  have hserved : ¬(channelOf c ≠ 0 ∧ s.management.serviceOn = false) := by
    rintro ⟨h0, hoff⟩
    rw [hoff] at hservice
    exact hservice.elim h0 Bool.false_ne_true
  rw [State.trunkFrame, hcheck, hform]
  simp only [Bool.not_true, Bool.false_eq_true, if_false]
  rw [if_neg (by omega), if_neg, if_neg hserved, if_neg]
  · rw [AssocState.receives_iff, Direction.allowsInbound_iff]
    exact not_not.2 ⟨hstate, hdir⟩
  · rintro ⟨h15, h0⟩
    exact hown.elim (fun h => hbroadcast (h ▸ h15)) (fun h => h.2 h0)

/-- R74 to R76: a frame with a bank, an acceptable sequence and room joins the Inbound Work Queue. -/
theorem State.frameForBank_joins {s : State} {c : List Byte} {b : BankId}
    (hbank : (s.assoc (channelOf c)).bankFor (generationOf c) = some b)
    (haccepts : (s.bank (channelOf c) b).accepts (sequenceOf c) = true) (hroom : s.engine.inbound.length < 16) :
    s.frameForBank c = (s.joinInbound (inItemOf c b)).settle := by
  rw [State.frameForBank, hbank]
  simp only [haccepts, Bool.not_true, Bool.false_eq_true, if_false, if_neg (Nat.not_le.2 hroom)]

/-! ## The arrival (R69) -/

/-- R69: the closing delimiter of a frame whose octets are stored. -/
theorem exec_trunkFrameArrival {s : State} {c : List Byte} (h : s.Clocked)
    (hr : s.receiver = { state := .frame, staging := c }) (h20 : 20 ≤ c.length) (h1538 : c.length ≤ 1538) :
    exec .trunkFrameArrival s = .next
      (({ s.lineTo s.access with receiver := { state := .opened, staging := [] } } : State).trunkFrame c) := by
  have hdue : s.receiver.arrivalDue = true := by
    simp [Receiver.arrivalDue, hr, h20, h1538]
  have htakes : s.receiver.takeOctet delimiter = ({ state := .opened, staging := [] }, .arrival c) := by
    rw [hr]
    show Receiver.frameOctet _ delimiter = _
    rw [Receiver.frameOctet, if_pos rfl, if_neg (Nat.not_lt.2 h20)]
  show s.lineEvent s.receiver.arrivalDue (fun s => s.receiveOctet delimiter) = _
  rw [State.lineEvent, State.event, h.running, State.clockRuns, h.clock, hdue, Bool.and_self, Bool.and_self, if_pos rfl,
    State.receiveOctet, show s.clockEdge.receiver = s.receiver from rfl, htakes]
  rfl

/-- Settles O24: the frame passes the tests one after another, and a BUSY engine leaves its item in the queue. -/
theorem arrivalThatPassesJoinsTheInboundQueue : Obligations.ArrivalThatPassesJoinsTheInboundQueue := by
  unfold Obligations.ArrivalThatPassesJoinsTheInboundQueue
  intro s c b hclocked hbusy hr h20 h1538 hcheck hform hown hservice hstate hdir hbank hfirst haccepts hroom
  let t : State := { s.lineTo s.access with receiver := { state := .opened, staging := [] } }
  have hfor : t.trunkFrame c = t.frameForBank c :=
    State.trunkFrame_forBank ((trunkCheckPasses_iff (by omega)).2 hcheck) ((formPasses_iff c).2 hform) hown hservice
      hstate hdir
  have hjoins : t.frameForBank c = (t.joinInbound (inItemOf c b)).settle :=
    State.frameForBank_joins (Assoc.bankFor_eq_some hbank hfirst) haccepts hroom
  have hsettled : (t.joinInbound (inItemOf c b)).settle = t.joinInbound (inItemOf c b) :=
    State.settle_busy hbusy.busy hbusy.inbox
  rw [exec_trunkFrameArrival hclocked hr h20 h1538, hfor, hjoins, hsettled]
  rfl

end Sys2Proof.Machine
end

section
/-! The keystream, the tag and a sealed frame (R46, R47, R50, R64, R66, R70). -/

namespace Sys2Proof.Machine

/-! ## Octets of a block (R177) -/

/-- Octet `j` of a block, the first most significant. -/
def octetOf (b : Block) (j : Nat) : Byte := b.extractLsb' (8 * (15 - j)) 8

/-- The block of the octets `o 0` to `o 15`. -/
def blockFrom (o : Nat → Byte) : Block :=
  o 0 ++ o 1 ++ o 2 ++ o 3 ++ o 4 ++ o 5 ++ o 6 ++ o 7 ++ o 8 ++ o 9 ++ o 10 ++ o 11 ++ o 12 ++ o 13 ++ o 14 ++ o 15

theorem blockOctets_eq (b : Block) : blockOctets b = (List.range 16).map (octetOf b) := by
  refine List.map_congr_left fun j _ => ?_
  apply BitVec.eq_of_toNat_eq
  rw [octetOf, BitVec.toNat_ofNat, BitVec.extractLsb'_toNat, Nat.shiftRight_eq_div_pow, Nat.pow_mul]

theorem ofNat_beNat_range (o : Nat → Byte) : BitVec.ofNat 128 (beNat ((List.range 16).map o)) = blockFrom o := by
  have h : beNat ((List.range 16).map o) = (blockFrom o).toNat := by
    simp only [blockFrom, toNat_append_mul]
    simp [beNat, List.range_succ]
  rw [h, BitVec.ofNat_toNat, BitVec.setWidth_eq]

theorem octetAt_drop (l : List Byte) (k i : Nat) : octetAt (l.drop k) i = octetAt l (k + i) := by
  rw [octetAt, octetAt, List.getElem?_drop]

theorem octetAt_take (l : List Byte) {n i : Nat} (h : i < n) : octetAt (l.take n) i = octetAt l i := by
  rw [octetAt, octetAt, List.getElem?_take_of_lt h]

/-- Octets read from a list, those it lacks as 0. -/
theorem map_octetAt_range (l : List Byte) {n : Nat} (h : l.length ≤ n) :
    (List.range n).map (octetAt l) = l ++ List.replicate (n - l.length) 0 := by
  refine List.ext_getElem (by simp; omega) fun i hi _ => ?_
  rw [List.length_map, List.length_range] at hi
  rw [List.getElem_map, List.getElem_range, List.getElem_append, octetAt]
  split
  · rw [List.getElem?_eq_getElem ‹_›]
    rfl
  · rw [List.getElem?_eq_none (by omega), List.getElem_replicate]
    rfl

/-- R47: a block of at most 16 octets, padded with zero octets. -/
theorem blockOf_eq {l : List Byte} (h : l.length ≤ 16) : blockOf l = blockFrom (octetAt l) := by
  rw [blockOf, ← map_octetAt_range l h, ofNat_beNat_range]

/-- R47: block `i` of a ciphertext, the last padded with zero octets. -/
theorem blockOf_textBlock (text : List Byte) (i : Nat) :
    blockOf ((text.drop (16 * i)).take 16) = blockFrom (fun j => octetAt text (16 * i + j)) := by
  rw [blockOf, ← map_octetAt_range _ (List.length_take_le _ _), ← ofNat_beNat_range]
  congr 2
  refine List.map_congr_left fun j hj => ?_
  rw [octetAt_take _ (List.mem_range.1 hj), octetAt_drop]

/-! ## The keystream (R46) -/

/-- R46: octet `j` of the keystream. -/
def keystreamOctet (k : Key) (a : AssocId) (d : Byte) (g : W16) (q : W32) (j : Nat) : Byte :=
  octetOf (Config.permutation k (counterBlock a d g q (j / 16 + 1))) (j % 16)

theorem keystream_eq (k : Key) (a : AssocId) (d : Byte) (g : W16) (q : W32) (n : Nat) :
    keystream k a d g q n = (List.range (16 * n)).map (keystreamOctet k a d g q) := by
  induction n with
  | zero => rfl
  | succ n ih =>
    rw [Nat.mul_succ, List.range_add, List.map_append, ← ih, List.map_map, keystream, List.range_succ,
      List.flatMap_append, List.flatMap_singleton, blockOctets_eq, ← keystream]
    congr 1
    refine List.map_congr_left fun j hj => ?_
    have hj := List.mem_range.1 hj
    rw [Function.comp_apply, keystreamOctet, show (16 * n + j) / 16 = n by omega, show (16 * n + j) % 16 = j by omega]

theorem applyKeystream_eq (k : Key) (a : AssocId) (d : Byte) (g : W16) (q : W32) (text : List Byte) :
    applyKeystream k a d g q text =
      (List.range text.length).map (fun j => octetAt text j ^^^ keystreamOctet k a d g q j) := by
  have hcount := (blockCount_spec text.length).1
  rw [applyKeystream, keystream_eq]
  refine List.ext_getElem (by simpa using hcount) fun j hj _ => ?_
  have hj : j < text.length := by simp at hj; omega
  simp [octetAt, hj]

@[simp] theorem length_applyKeystream (k : Key) (a : AssocId) (d : Byte) (g : W16) (q : W32) (text : List Byte) :
    (applyKeystream k a d g q text).length = text.length := by
  rw [applyKeystream_eq, List.length_map, List.length_range]

/-- R46: deciphering undoes enciphering. -/
theorem applyKeystream_applyKeystream (k : Key) (a : AssocId) (d : Byte) (g : W16) (q : W32) (text : List Byte) :
    applyKeystream k a d g q (applyKeystream k a d g q text) = text := by
  rw [applyKeystream_eq, length_applyKeystream]
  refine List.ext_getElem (by simp) fun j _ hj => ?_
  simp [applyKeystream_eq, octetAt, hj]

/-! ## The tag (R47) -/

/-- R47: the chain over the header and the blocks of a ciphertext, before the length block. -/
def tagChain (k : Key) (header text : List Byte) : Block :=
  (List.range (blockCount text.length)).foldl
    (fun c i => Config.permutation k (c ^^^ blockFrom (fun j => octetAt text (16 * i + j))))
    (Config.permutation k (blockFrom (octetAt header)))

theorem frameTag_eq (k : Key) {header : List Byte} (text : List Byte) (h : header.length = 10) :
    frameTag k header text =
      (List.range 8).map (octetOf (Config.permutation k (tagChain k header text ^^^ lengthBlock text.length))) := by
  rw [frameTag, chainBlock, textBlocks, List.foldl_map, blockOf_eq (by omega), blockOctets_eq, ← List.map_take,
    List.take_range]
  simp only [blockOf_textBlock]
  rfl

theorem length_frameTag (k : Key) (header text : List Byte) : (frameTag k header text).length = 8 := by
  simp [frameTag]

/-! ## A sealed frame (R50, R64) -/

@[simp] theorem length_sentHeader (station : BitVec 3) (a : AssocId) (g : W16) (q : W32) (l : Nat) :
    (sentHeader station a g q l).length = 10 := by simp [sentHeader]

@[simp] theorem length_trunkCheckOctets (l : List Byte) : (trunkCheckOctets l).length = 2 := length_word 2 _

/-- R66: a frame that ends in its own check passes it. -/
theorem trunkCheckPasses_append (l : List Byte) : trunkCheckPasses (l ++ trunkCheckOctets l) = true := by
  have hl : (l ++ trunkCheckOctets l).length - 2 = l.length := by simp
  rw [trunkCheckPasses, hl, List.take_left, List.drop_left, beq_self_eq_true]

/-- R64: the parts of a sealed frame's contents, in order, and where each is found. -/
theorem sealFrame_parts (k : Key) (station : BitVec 3) (a : AssocId) (g : W16) (q : W32) (m : Bool) (p : List Byte) :
    let header := sentHeader station a g q p.length
    let text := applyKeystream k a sentDirection g q p
    let tag := frameTag k header text
    let c := (sealFrame k station a g q m p).contents
    c = header ++ (text ++ (tag ++ trunkCheckOctets (header ++ text ++ tag))) ∧ c.length = p.length + 20 ∧
      c.take 10 = header ∧ (c.drop 10).take p.length = text ∧ (c.drop (10 + p.length)).take 8 = tag := by
  intro header text tag c
  have hheader : header.length = 10 := length_sentHeader station a g q p.length
  have htext : text.length = p.length := length_applyKeystream k a sentDirection g q p
  have htag : tag.length = 8 := length_frameTag k header text
  have hc : c = header ++ (text ++ (tag ++ trunkCheckOctets (header ++ text ++ tag))) := by
    rw [← List.append_assoc text, ← List.append_assoc header, ← List.append_assoc header]
    rfl
  have hdrop : c.drop 10 = text ++ (tag ++ trunkCheckOctets (header ++ text ++ tag)) := by
    rw [hc, List.drop_left' hheader]
  refine ⟨hc, ?length, by rw [hc, List.take_left' hheader], by rw [hdrop, List.take_left' htext], ?tag⟩
  case length =>
    rw [hc]
    simp only [List.length_append, hheader, htext, htag, length_trunkCheckOctets]
    omega
  case tag => rw [← List.drop_drop, hdrop, List.drop_left' htext, List.take_left' htag]

theorem word16At_drop (l : List Byte) (k i : Nat) : word16At (l.drop k) i = word16At l (k + i) := by
  rw [word16At, word16At, octetAt_drop, octetAt_drop, Nat.add_assoc]

theorem word32At_drop (l : List Byte) (k i : Nat) : word32At (l.drop k) i = word32At l (k + i) := by
  rw [word32At, word32At, word16At_drop, word16At_drop, Nat.add_assoc]

/-- R177: a 4-octet number read back from the octets it is carried in. -/
theorem word32At_word (q : W32) (l : List Byte) : word32At (word 4 q ++ l) 0 = q := by
  apply BitVec.eq_of_toNat_eq
  have := q.isLt
  rw [word32At_eq, toNat_append_mul, toNat_append_mul, toNat_append_mul]
  simp [word, beOctets, List.range_succ, octetAt]
  omega

theorem word16At_beOctets {n : Nat} (h : n < 65536) (l : List Byte) : (word16At (beOctets 2 n ++ l) 0).toNat = n := by
  have hword : beOctets 2 n = word 2 (BitVec.ofNat 16 n) := by
    rw [word, BitVec.toNat_ofNat, Nat.mod_eq_of_lt h]
  rw [hword, word16At_word, BitVec.toNat_ofNat, Nat.mod_eq_of_lt h]

/-- R50: the first header octet holds destination 12 and the own station. -/
theorem sentHeader_first (station : BitVec 3) :
    (0xC0 ||| station.zeroExtend 8 : Byte).toNat / 16 = 12 ∧
      (0xC0 ||| station.zeroExtend 8 : Byte).toNat % 16 = station.toNat := by
  revert station
  decide

/-- R50, R70: contents that begin with a header the part wrote. -/
theorem sentHeader_reads (station : BitVec 3) (a : AssocId) (g : W16) (q : W32) {n : Nat} (h : n < 65536)
    (rest : List Byte) :
    let c := sentHeader station a g q n ++ rest
    destinationOf c = 12 ∧ (octetAt c 0).toNat % 16 = station.toNat ∧ channelOf c = a ∧ frameKindOf c = 0 ∧
      generationOf c = g ∧ sequenceOf c = q ∧ lengthOf c = n := by
  intro c
  have hc : c = (0xC0 ||| station.zeroExtend 8) :: BitVec.ofNat 8 a.val ::
      (word 2 g ++ (word 4 q ++ (beOctets 2 n ++ rest))) := by
    simp [c, sentHeader]
  have hgeneration : c.drop 2 = word 2 g ++ (word 4 q ++ (beOctets 2 n ++ rest)) := by rw [hc]; rfl
  have hsequence : c.drop 4 = word 4 q ++ (beOctets 2 n ++ rest) := by
    rw [← List.drop_drop (i := 2) (j := 2), hgeneration, List.drop_left' (length_word 2 g)]
  have hlength : c.drop 8 = beOctets 2 n ++ rest := by
    rw [← List.drop_drop (i := 4) (j := 4), hsequence, List.drop_left' (length_word 4 q)]
  have h0 : octetAt c 0 = 0xC0 ||| station.zeroExtend 8 := by rw [hc]; rfl
  have h1 : (octetAt c 1).toNat = a.val := by
    rw [hc]
    exact Nat.mod_eq_of_lt (by omega)
  obtain ⟨hdestination, hstation⟩ := sentHeader_first station
  refine ⟨by rw [destinationOf, h0, hdestination], by rw [h0, hstation], ?channel, ?kind, ?generation, ?sequence,
    ?length⟩
  case channel =>
    rw [channelOf, h1]
    exact Fin.ext (by simp)
  case kind =>
    rw [frameKindOf, h1]
    omega
  case generation => rw [generationOf, ← word16At_drop c 2 0, hgeneration, word16At_word]
  case sequence => rw [sequenceOf, ← word32At_drop c 4 0, hsequence, word32At_word]
  case length => rw [lengthOf, ← word16At_drop c 8 0, hlength, word16At_beOctets h]

/-- Settles O20: the cipher and the tag octet by octet, then the parts of the contents and the fields of the header. -/
theorem sealedFramesReadAsWritten : Obligations.SealedFramesReadAsWritten := by
  unfold Obligations.SealedFramesReadAsWritten
  intro k a g q E octet block ciphered tagged
  have hcipher (d : Byte) (text : List Byte) : applyKeystream k a d g q text = ciphered d text :=
    applyKeystream_eq k a d g q text
  have htagged (header text : List Byte) (h : header.length = 10) : frameTag k header text = tagged header text :=
    frameTag_eq k text h
  refine ⟨hcipher, htagged, ?_⟩
  intro station m p hp hq c
  obtain ⟨hparts, hlen, hheader, htext, htag⟩ := sealFrame_parts k station a g q m p
  obtain ⟨hdestination, hstation, hchannel, hkind, hgeneration, hsequence, hlength⟩ :
      destinationOf c = 12 ∧ (octetAt c 0).toNat % 16 = station.toNat ∧ channelOf c = a ∧ frameKindOf c = 0 ∧
        generationOf c = g ∧ sequenceOf c = q ∧ lengthOf c = p.length := by
    rw [show c = _ from hparts]
    exact sentHeader_reads station a g q (by omega) _
  have hcheck : trunkCheckPasses c = true := trunkCheckPasses_append _
  have hform : formPasses c = true := by
    have hlen : c.length = p.length + 20 := hlen
    rw [formPasses, hkind, hsequence, hlength, hlen, bne_iff_ne.2 hq, decide_eq_true hp, beq_self_eq_true,
      beq_self_eq_true]
    rfl
  refine ⟨hlen, hcheck, hform, hdestination, hstation, hchannel, hgeneration, hsequence, hlength,
    htext.trans (hcipher _ _), ?tag, ?deciphered⟩
  case tag =>
    rw [← hcipher, show c.take 10 = _ from hheader]
    exact htag.trans (htagged _ _ (length_sentHeader ..))
  case deciphered =>
    rw [show (c.drop 10).take p.length = _ from htext]
    exact applyKeystream_applyKeystream k a sentDirection g q p

end Sys2Proof.Machine
end

section
/-! Events timed by the trunk clock (R62, R95, R97) and expiries on the millisecond count (R172). -/

namespace Sys2Proof.Machine

/-- R95, R97: an event of the trunk lines that can happen; its edge restarts the clock-loss measure. -/
theorem State.lineEvent_clocked {s : State} {c : Bool} (h : s.Clocked) (hc : c = true) (f : State → State) :
    s.lineEvent c f = .next (f (s.lineTo s.access)) := by
  rw [State.lineEvent, State.clockRuns, h.clock, hc]
  exact State.event_running h.running _

/-- R172: a timer on the millisecond count whose deadline nothing obstructs can expire. -/
theorem State.expires_of_unobstructed {s : State} {d : Option Nat} {t : Nat} (hd : d = some t) (h : s.Unobstructed t) :
    s.expires d = true := by
  rw [hd]
  exact State.mayReach_of_unobstructed h

/-- R172: the count has come to the deadline of the timer that expires. -/
theorem State.reachDeadline_eq_comesTo {s : State} {d : Option Nat} {t : Nat} (hd : d = some t) :
    s.reachDeadline d = s.comesTo t := by
  rw [hd]
  rfl

/-- R171: the coming of time to a reading changes the Time Base and the clock-loss measure alone. -/
theorem State.comesTo_frame (s : State) (t : Nat) : ∃ d,
    s.comesTo t = { s with time := (s.comesTo t).time, access := { s.access with clockDeadline := d } } := by
  unfold State.comesTo
  split <;> exact ⟨_, rfl⟩

end Sys2Proof.Machine
end

section
/-! The framing table of the Trunk Receiver (R67, R68) and the stuffing of a frame (R64). -/

namespace Sys2Proof.Machine

/-! ## Storing an octet (R67, R68) -/

theorem Receiver.store_room {r : Receiver} (h : r.staging.length < 1538) (o : Byte) :
    r.store o = ({ state := .frame, staging := r.staging ++ [o] }, .nothing) :=
  if_neg (Nat.not_le.2 h)

theorem Receiver.store_full {r : Receiver} (h : 1538 ≤ r.staging.length) (o : Byte) :
    r.store o = ({ state := .discard, staging := [] }, .dropped) :=
  if_pos h

/-! ## The rows of the table (R67) -/

section
variable {r : Receiver}

theorem Receiver.takeOctet_opened (h : r.state = .opened) (o : Byte) : r.takeOctet o = r.openOctet o := by
  rw [Receiver.takeOctet, h]

theorem Receiver.takeOctet_frame (h : r.state = .frame) (o : Byte) : r.takeOctet o = r.frameOctet o := by
  rw [Receiver.takeOctet, h]

theorem Receiver.takeOctet_escaped (h : r.state = .escaped) (o : Byte) : r.takeOctet o = r.escapedOctet o := by
  rw [Receiver.takeOctet, h]

theorem Receiver.takeOctet_discard (h : r.state = .discard) (o : Byte) :
    r.takeOctet o = if o = delimiter then ({ state := .opened, staging := [] }, .nothing) else (r, .nothing) := by
  rw [Receiver.takeOctet, h]

/-- R67: an octet in OPEN ends and drops no frame. -/
theorem Receiver.openOctet_eq (r : Receiver) (o : Byte) : r.openOctet o =
    (if o = 0xC9 then r
     else if o = 0xCA then { state := .escaped, staging := [] }
     else if o = 0xFF then { state := .hunt, staging := [] }
     else { state := .frame, staging := [o] }, .nothing) := by
  unfold Receiver.openOctet delimiter escapeOctet
  split_ifs <;> rfl

theorem Receiver.openOctet_escape (r : Receiver) :
    r.openOctet escapeOctet = ({ state := .escaped, staging := [] }, .nothing) := by
  rw [Receiver.openOctet, if_neg (by decide), if_pos rfl]

theorem Receiver.openOctet_stored (r : Receiver) {o : Byte} (hd : o ≠ delimiter) (he : o ≠ escapeOctet) (hff : o ≠ 0xFF) :
    r.openOctet o = ({ state := .frame, staging := [o] }, .nothing) := by
  rw [Receiver.openOctet, if_neg hd, if_neg he, if_neg hff]

theorem Receiver.frameOctet_escape (r : Receiver) :
    r.frameOctet escapeOctet = ({ state := .escaped, staging := r.staging }, .nothing) := by
  rw [Receiver.frameOctet, if_neg (by decide), if_pos rfl]

theorem Receiver.frameOctet_stored (r : Receiver) {o : Byte} (hd : o ≠ delimiter) (he : o ≠ escapeOctet) :
    r.frameOctet o = r.store o := by
  rw [Receiver.frameOctet, if_neg hd, if_neg he]

theorem Receiver.frameOctet_short (h : r.staging.length < 20) :
    r.frameOctet delimiter = ({ state := .opened, staging := [] }, .dropped) := by
  rw [Receiver.frameOctet, if_pos rfl, if_pos h]

theorem Receiver.frameOctet_arrival (h : 20 ≤ r.staging.length) :
    r.frameOctet delimiter = ({ state := .opened, staging := [] }, .arrival r.staging) := by
  rw [Receiver.frameOctet, if_pos rfl, if_neg (Nat.not_lt.2 h)]

theorem Receiver.escapedOctet_delimiter (r : Receiver) :
    r.escapedOctet delimiter = ({ state := .opened, staging := [] }, .nothing) :=
  if_pos rfl

/-- R64, R67: an octet that was sent escaped is stored as it was before. -/
theorem Receiver.escapedOctet_stored (r : Receiver) {o : Byte} (h : o = delimiter ∨ o = escapeOctet) :
    r.escapedOctet (o ^^^ 0x10) = r.store o := by
  obtain rfl | rfl := h
  · rw [Receiver.escapedOctet, if_neg (by decide), if_pos (by decide)]
  · rw [Receiver.escapedOctet, if_neg (by decide), if_neg (by decide), if_pos (by decide)]

theorem Receiver.escapedOctet_other (r : Receiver) {o : Byte} (hd : o ≠ delimiter) (h9 : o ≠ 0xD9) (hA : o ≠ 0xDA) :
    r.escapedOctet o = ({ state := .discard, staging := [] }, .dropped) := by
  rw [Receiver.escapedOctet, if_neg hd, if_neg h9, if_neg hA]

end

/-! ## Stuffed octets (R64) -/

theorem stuffOctet_escaped {o : Byte} (h : o = delimiter ∨ o = escapeOctet) : stuffOctet o = [escapeOctet, o ^^^ 0x10] :=
  if_pos h

theorem stuffOctet_plain {o : Byte} (h : ¬(o = delimiter ∨ o = escapeOctet)) : stuffOctet o = [o] :=
  if_neg h

theorem stuff_cons (o : Byte) (c : List Byte) : stuff (o :: c) = stuffOctet o ++ stuff c := rfl

theorem Receiver.feed_append (r : Receiver) (l m : List Byte) :
    r.feed (l ++ m) = (((r.feed l).1.feed m).1, (r.feed l).2 ++ ((r.feed l).1.feed m).2) := by
  induction l generalizing r with
  | nil => rfl
  | cons o l ih => rw [List.cons_append, Receiver.feed, ih]; rfl

/-- Two octets of the receive line that each come to nothing. -/
theorem Receiver.feed_two {r q p : Receiver} {x y : Byte} (hx : r.takeOctet x = (q, .nothing))
    (hy : q.takeOctet y = (p, .nothing)) : r.feed [x, y] = (p, [.nothing, .nothing]) := by
  simp only [Receiver.feed, hx, hy]

/-- R64, R67: the second octet of an escaped one. -/
theorem Receiver.takeOctet_unescapes {l : List Byte} {o : Byte} (h : o = delimiter ∨ o = escapeOctet)
    (hl : l.length < 1538) :
    ({ state := .escaped, staging := l } : Receiver).takeOctet (o ^^^ 0x10) =
      ({ state := .frame, staging := l ++ [o] }, .nothing) := by
  rw [Receiver.takeOctet_escaped rfl, Receiver.escapedOctet_stored _ h]
  exact Receiver.store_room hl o

/-- R64, R67: the first octet of a frame, as it is sent. -/
theorem Receiver.feed_stuffOctet_opened {r : Receiver} (h : r.state = .opened) {o : Byte} (hff : o ≠ 0xFF) :
    r.feed (stuffOctet o) =
      ({ state := .frame, staging := [o] }, List.replicate (stuffOctet o).length .nothing) := by
  by_cases ho : o = delimiter ∨ o = escapeOctet
  · have hescape : r.takeOctet escapeOctet = ({ state := .escaped, staging := [] }, .nothing) :=
      (Receiver.takeOctet_opened h _).trans r.openOctet_escape
    rw [stuffOctet_escaped ho]
    exact Receiver.feed_two hescape (Receiver.takeOctet_unescapes ho (by simp))
  · have hfirst : r.takeOctet o = ({ state := .frame, staging := [o] }, .nothing) := by
      obtain ⟨hd, he⟩ := not_or.1 ho
      exact (Receiver.takeOctet_opened h o).trans (r.openOctet_stored hd he hff)
    rw [stuffOctet_plain ho]
    simp [Receiver.feed, hfirst]

/-- R64, R67: a further octet of a frame, as it is sent. -/
theorem Receiver.feed_stuffOctet_frame {l : List Byte} (hl : l.length < 1538) (o : Byte) :
    ({ state := .frame, staging := l } : Receiver).feed (stuffOctet o) =
      ({ state := .frame, staging := l ++ [o] }, List.replicate (stuffOctet o).length .nothing) := by
  by_cases ho : o = delimiter ∨ o = escapeOctet
  · rw [stuffOctet_escaped ho]
    exact Receiver.feed_two (Receiver.frameOctet_escape _) (Receiver.takeOctet_unescapes ho hl)
  · have hstored : ({ state := .frame, staging := l } : Receiver).takeOctet o =
        ({ state := .frame, staging := l ++ [o] }, .nothing) := by
      obtain ⟨hd, he⟩ := not_or.1 ho
      rw [Receiver.takeOctet_frame rfl, Receiver.frameOctet_stored _ hd he]
      exact Receiver.store_room hl o
    rw [stuffOctet_plain ho]
    simp [Receiver.feed, hstored]

/-- R64, R67: the stuffed octets join the stored ones as they were before the stuffing. -/
theorem Receiver.feed_stuff (l c : List Byte) (h : l.length + c.length ≤ 1538) :
    ({ state := .frame, staging := l } : Receiver).feed (stuff c) =
      ({ state := .frame, staging := l ++ c }, List.replicate (stuff c).length .nothing) := by
  induction c generalizing l with
  | nil => simp [stuff, Receiver.feed]
  | cons o c ih =>
    rw [List.length_cons] at h
    have hrest := ih (l ++ [o]) (by simp; omega)
    rw [stuff_cons, Receiver.feed_append,
      Receiver.feed_stuffOctet_frame (by omega) o, hrest, List.length_append, List.replicate_add, List.append_assoc]
    rfl

/-- Settles O19: the first octet opens the frame, the others join it, and the delimiter brings its arrival. -/
theorem stuffedContentsArriveAsSent : Obligations.StuffedContentsArriveAsSent := by
  unfold Obligations.StuffedContentsArriveAsSent
  intro r c hr h20 h1538 hff
  cases c with
  | nil => exact absurd h20 (by decide)
  | cons o c =>
    have hff : o ≠ 0xFF := hff
    have hcontents : r.feed (stuff (o :: c)) =
        ({ state := .frame, staging := o :: c }, List.replicate (stuff (o :: c)).length .nothing) := by
      rw [stuff_cons, Receiver.feed_append,
        Receiver.feed_stuffOctet_opened hr hff, Receiver.feed_stuff [o] c (by simp at h1538 ⊢; omega), List.length_append,
        List.replicate_add]
      rfl
    have hclosing : ({ state := .frame, staging := o :: c } : Receiver).takeOctet delimiter =
        ({ state := .opened, staging := [] }, .arrival (o :: c)) := Receiver.frameOctet_arrival h20
    rw [Receiver.feed_append, hcontents]
    simp only [Receiver.feed, hclosing]

/-! ## The commands (R67, R68) -/

/-- R67 to R69: an octet changes the receiver, and has the effect that it comes to. -/
theorem State.receiveOctet_eq {s : State} {o : Byte} {r : Receiver} {e : FramingEffect}
    (h : s.receiver.takeOctet o = (r, e)) : s.receiveOctet o = (s.modReceiver fun _ => r).framingEffect e := by
  rw [State.receiveOctet, h]

theorem exec_huntDelimiterFound {s : State} (h : s.Clocked) (hr : s.receiver.state = .hunt) :
    exec .huntDelimiterFound s =
      .next { s.lineTo s.access with receiver := { state := .opened, staging := [] } } :=
  State.lineEvent_clocked h (beq_iff_eq.2 hr) (fun s => s.modReceiver (fun _ => { state := .opened, staging := [] }))

/-- R67: an octet at which no frame ends or is dropped. -/
theorem exec_trunkReceiveOctet {s : State} {o : Byte} {r : Receiver} (h : s.Clocked) (hr : s.receiver.state ≠ .hunt)
    (ht : s.receiver.takeOctet o = (r, .nothing)) :
    exec (.trunkReceiveOctet o) s = .next { s.lineTo s.access with receiver := r } := by
  have htakes : (s.lineTo s.access).receiver.takeOctet o = (r, .nothing) := ht
  refine (State.lineEvent_clocked h (bne_iff_ne.2 hr) (fun s => s.receiveOctet o)).trans ?_
  rw [State.receiveOctet_eq htakes]
  rfl

/-- R68: an octet at which a frame is dropped. -/
theorem exec_trunkFramingDrop {s : State} {o : Byte} {r : Receiver} (h : s.Clocked)
    (ht : s.receiver.takeOctet o = (r, .dropped)) :
    exec (.trunkFramingDrop o) s = .next { (s.countStation .malformed).lineTo s.access with receiver := r } := by
  have htakes : (s.lineTo s.access).receiver.takeOctet o = (r, .dropped) := ht
  have hdrops : ((s.receiver.takeOctet o).2 == .dropped) = true := by rw [ht]; rfl
  refine (State.lineEvent_clocked h hdrops (fun s => s.receiveOctet o)).trans ?_
  rw [State.receiveOctet_eq htakes]
  rfl

/-- Settles O22: each row of the framing table, then each of the drops. -/
theorem receiverTakesAndDropsOctets : Obligations.ReceiverTakesAndDropsOctets := by
  unfold Obligations.ReceiverTakesAndDropsOctets
  refine ⟨fun s h => ?takes, fun s h => ?drops⟩
  case takes =>
    have takes {w : FramingState} {o : Byte} {r : Receiver} (hs : s.receiver.state = w) (hw : w ≠ .hunt)
        (ht : s.receiver.takeOctet o = (r, .nothing)) :
        exec (.trunkReceiveOctet o) s = .next { s.lineTo s.access with receiver := r } :=
      exec_trunkReceiveOctet h (hs ▸ hw) ht
    refine ⟨exec_huntDelimiterFound h, fun o hs => ?opened, fun hs => ⟨?escape, fun o hd he hl => ?stored⟩,
      fun hs => ⟨?aborted, fun hl => ⟨?delimiter, ?escapeOctet⟩⟩, fun hs => ⟨?found, fun o hd => ?discarded⟩⟩
    case opened =>
      exact takes hs (by decide) ((Receiver.takeOctet_opened hs o).trans (Receiver.openOctet_eq _ o))
    case escape =>
      exact takes hs (by decide) ((Receiver.takeOctet_frame hs _).trans (Receiver.frameOctet_escape _))
    case stored =>
      exact takes hs (by decide) ((Receiver.takeOctet_frame hs o).trans
        ((Receiver.frameOctet_stored _ hd he).trans (Receiver.store_room hl o)))
    case aborted =>
      exact takes hs (by decide) ((Receiver.takeOctet_escaped hs _).trans (Receiver.escapedOctet_delimiter _))
    case delimiter =>
      exact takes hs (by decide) ((Receiver.takeOctet_escaped hs _).trans
        ((Receiver.escapedOctet_stored _ (.inl rfl)).trans (Receiver.store_room hl delimiter)))
    case escapeOctet =>
      exact takes hs (by decide) ((Receiver.takeOctet_escaped hs _).trans
        ((Receiver.escapedOctet_stored _ (.inr rfl)).trans (Receiver.store_room hl escapeOctet)))
    case found =>
      exact takes hs (by decide) ((Receiver.takeOctet_discard hs _).trans (if_pos rfl))
    case discarded =>
      exact takes hs (by decide) ((Receiver.takeOctet_discard hs o).trans (if_neg hd))
  case drops =>
    refine ⟨fun o hs hl hd he => ?long, fun o hs hl ho => ?longEscaped, fun o hs hd h9 hA => ?noEscape,
      fun hs hl => ?short⟩
    case long =>
      exact exec_trunkFramingDrop h ((Receiver.takeOctet_frame hs o).trans
        ((Receiver.frameOctet_stored _ hd he).trans (Receiver.store_full hl.ge o)))
    case longEscaped =>
      obtain rfl | rfl := ho
      · exact exec_trunkFramingDrop h ((Receiver.takeOctet_escaped hs _).trans
          ((Receiver.escapedOctet_stored _ (.inl rfl)).trans (Receiver.store_full hl.ge delimiter)))
      · exact exec_trunkFramingDrop h ((Receiver.takeOctet_escaped hs _).trans
          ((Receiver.escapedOctet_stored _ (.inr rfl)).trans (Receiver.store_full hl.ge escapeOctet)))
    case noEscape =>
      exact exec_trunkFramingDrop h ((Receiver.takeOctet_escaped hs o).trans
        (Receiver.escapedOctet_other _ hd h9 hA))
    case short =>
      exact exec_trunkFramingDrop h ((Receiver.takeOctet_frame hs _).trans (Receiver.frameOctet_short hl))

end Sys2Proof.Machine
end

section
/-! The nine tests of an arrival, and what is counted at the first that fails (R69 to R76). -/

namespace Sys2Proof.Machine

/-! ## The tests of the frame (R66, R70 to R73) -/

theorem State.trunkFrame_badCheck {s : State} {c : List Byte} (h : trunkCheckPasses c = false) :
    s.trunkFrame c = s.countStation .crcBad := by
  rw [State.trunkFrame, h]
  rfl

theorem State.trunkFrame_badForm {s : State} {c : List Byte} (hcheck : trunkCheckPasses c = true)
    (h : formPasses c = false) : s.trunkFrame c = s.countStation .malformed := by
  rw [State.trunkFrame, hcheck, h]
  rfl

section
variable {s : State} {c : List Byte} (hcheck : trunkCheckPasses c = true) (hform : formPasses c = true)
include hcheck hform

/-- R71: a frame for another station. -/
theorem State.trunkFrame_elsewhere (hdest : ¬(destinationOf c = s.identity.station.toNat ∨ destinationOf c = 15)) :
    s.trunkFrame c = s := by
  simp only [State.trunkFrame, hcheck, hform, Bool.not_true, Bool.false_eq_true, if_false]
  exact if_pos (not_or.1 hdest)

/-- R72: a broadcast on channel 0. -/
theorem State.trunkFrame_misaddressed (hdest : destinationOf c = 15) (hchannel : channelOf c = 0) :
    s.trunkFrame c = s.countStation .misaddressed := by
  simp only [State.trunkFrame, hcheck, hform, Bool.not_true, Bool.false_eq_true, if_false]
  exact (if_neg fun h => h.2 hdest).trans (if_pos ⟨hdest, hchannel⟩)

/-- R72: a traffic frame with service off. -/
theorem State.trunkFrame_serviceOff (hdest : destinationOf c = s.identity.station.toNat ∨ destinationOf c = 15)
    (hchannel : channelOf c ≠ 0) (hoff : s.management.serviceOn = false) :
    s.trunkFrame c = s.countStation .serviceDrop := by
  simp only [State.trunkFrame, hcheck, hform, Bool.not_true, Bool.false_eq_true, if_false]
  exact (if_neg fun h => not_or.2 h hdest).trans
    ((if_neg fun h => hchannel h.2).trans (if_pos ⟨hchannel, hoff⟩))

/-- R73: an association that takes no frames from the office. -/
theorem State.trunkFrame_stateDrop (hdest : destinationOf c = s.identity.station.toNat ∨ destinationOf c = 15)
    (hchannel : ¬(destinationOf c = 15 ∧ channelOf c = 0))
    (hservice : channelOf c = 0 ∨ s.management.serviceOn = true)
    (h : ¬((s.assoc (channelOf c)).state.receives = true ∧ (s.assoc (channelOf c)).direction.allowsInbound = true)) :
    s.trunkFrame c = s.countAssoc (channelOf c) .stateDrop := by
  have hserved : ¬(channelOf c ≠ 0 ∧ s.management.serviceOn = false) := fun ⟨h0, hoff⟩ =>
    hservice.elim h0 fun hon => Bool.false_ne_true (hoff.symm.trans hon)
  simp only [State.trunkFrame, hcheck, hform, Bool.not_true, Bool.false_eq_true, if_false]
  exact (if_neg fun h => not_or.2 h hdest).trans ((if_neg hchannel).trans ((if_neg hserved).trans (if_pos h)))

end

/-! ## The tests of the bank (R74 to R76) -/

theorem Assoc.bankFor_eq_none {r : Assoc} {g : W16} (h : ∀ b, ¬(r.bank b).Qualifies g) : r.bankFor g = none := by
  have unusable (b : BankId) : ¬(r.bank b).usableFor g = true := fun hb => h b ((Bank.usableFor_iff _ _).1 hb)
  exact (if_neg (unusable .bankA)).trans (if_neg (unusable .bankB))

section
variable {s : State} {c : List Byte}

theorem State.frameForBank_stale (h : (s.assoc (channelOf c)).bankFor (generationOf c) = none) :
    s.frameForBank c = s.countAssoc (channelOf c) .staleGen := by
  rw [State.frameForBank, h]

theorem State.frameForBank_replay {b : BankId} (hbank : (s.assoc (channelOf c)).bankFor (generationOf c) = some b)
    (h : (s.bank (channelOf c) b).accepts (sequenceOf c) = false) :
    s.frameForBank c = s.countAssoc (channelOf c) .replay := by
  rw [State.frameForBank, hbank]
  simp only [h, Bool.not_false, if_true]

theorem State.frameForBank_full {b : BankId} (hbank : (s.assoc (channelOf c)).bankFor (generationOf c) = some b)
    (haccepts : (s.bank (channelOf c) b).accepts (sequenceOf c) = true) (h : 16 ≤ s.engine.inbound.length) :
    s.frameForBank c = s.countAssoc (channelOf c) .queueDrop := by
  rw [State.frameForBank, hbank]
  simp only [haccepts, Bool.not_true, Bool.false_eq_true, if_false, if_pos h]

end

/-- R73: the states and the direction in which an association takes no frames from the office. -/
theorem Assoc.not_receives {r : Assoc}
    (h : r.state = .vacant ∨ r.state = .suspended ∨ r.state = .closing ∨ r.direction = .outbound) :
    ¬(r.state.receives = true ∧ r.direction.allowsInbound = true) := by
  rw [AssocState.receives_iff, Direction.allowsInbound_iff]
  rintro ⟨hstate, hdir⟩
  obtain h | h | h | h := h
  case inr.inr.inr => exact hdir h
  all_goals
    rw [h] at hstate
    exact absurd hstate (by decide)

/-- Settles O23: the tests in octets, then each test's failure after the tests before it have passed. -/
theorem arrivalFailsAtTheFirstTest : Obligations.ArrivalFailsAtTheFirstTest := by
  unfold Obligations.ArrivalFailsAtTheFirstTest
  refine ⟨fun c h20 => ?octets, Bank.accepts_iff, ?tests⟩
  case octets =>
    exact ⟨trunkCheckPasses_iff (by omega), formPasses_iff c, rfl, by simp [channelOf], rfl, word32At_eq c 4,
      word16At_toNat c 8⟩
  case tests =>
    intro s c hclocked hr h20 h1538 a r own leaves
    let t : State := { s.lineTo s.access with receiver := { state := .opened, staging := [] } }
    have harrival : exec .trunkFrameArrival s = .next (t.trunkFrame c) := exec_trunkFrameArrival hclocked hr h20 h1538
    have leave {u : State} (e : t.trunkFrame c = u) : exec .trunkFrameArrival s = .next u :=
      harrival.trans (congrArg _ e)
    have check : trunkCheckPasses c = true ↔ CheckHolds c := trunkCheckPasses_iff (by omega)
    have form : formPasses c = true ↔ FormHolds c := formPasses_iff c
    refine ⟨fun hcheck => ?crcBad, fun hcheck hform => ?malformed, fun hcheck hform => ?rest⟩
    case crcBad =>
      exact leave (State.trunkFrame_badCheck (Bool.eq_false_iff.2 (mt check.1 hcheck)))
    case malformed =>
      exact leave (State.trunkFrame_badForm (check.2 hcheck) (Bool.eq_false_iff.2 (mt form.1 hform)))
    case rest =>
      have hcheck := check.2 hcheck
      have hform := form.2 hform
      refine ⟨fun hdest => leave (State.trunkFrame_elsewhere hcheck hform hdest),
        fun hdest h0 => leave (State.trunkFrame_misaddressed hcheck hform hdest h0),
        fun hdest h0 hoff => leave (State.trunkFrame_serviceOff hcheck hform hdest h0 hoff),
        fun hdest h0 hservice => ⟨fun hstate => ?stateDrop, fun hstate hdir => ?banks⟩⟩
      case stateDrop =>
        exact leave (State.trunkFrame_stateDrop hcheck hform hdest h0 hservice (Assoc.not_receives hstate))
      case banks =>
        have hown : destinationOf c = t.identity.station.toNat ∨ destinationOf c = 15 ∧ channelOf c ≠ 0 :=
          hdest.imp_right fun h15 => ⟨h15, fun hc => h0 ⟨h15, hc⟩⟩
        have hfor : t.trunkFrame c = t.frameForBank c :=
          State.trunkFrame_forBank hcheck hform hown hservice hstate hdir
        refine ⟨fun hnone => leave (hfor.trans (State.frameForBank_stale (Assoc.bankFor_eq_none hnone))),
          fun b hbank hfirst => ?bank⟩
        have hbank : (t.assoc (channelOf c)).bankFor (generationOf c) = some b := Assoc.bankFor_eq_some hbank hfirst
        exact ⟨fun hreplay => leave (hfor.trans (State.frameForBank_replay hbank hreplay)),
          fun haccepts hfull => leave (hfor.trans (State.frameForBank_full hbank haccepts hfull))⟩

end Sys2Proof.Machine
end

section
/-! Won claims, clashes, releases and the standoff, and the trunk clock's loss and return (R77, R81, R83, R87 to R91,
R95 to R97). -/

namespace Sys2Proof.Machine

/-! ## Won claims (R81, R87, R88) -/

/-- R81: the class of the next frame is the highest that holds one. -/
theorem SendQueue.nextClass_highest {q : SendQueue} {c : TrafficClass} (hc : q.filled c ≠ [])
    (hcontrol : c = .urgent ∨ c = .bulk → q.control = []) (hurgent : c = .bulk → q.urgent = []) :
    q.nextClass = some c := by
  rw [SendQueue.nextClass_spec]
  cases c with
  | control => exact .inl ⟨rfl, hc⟩
  | urgent => exact .inr (.inl ⟨rfl, hcontrol (.inl rfl), hc⟩)
  | bulk => exact .inr (.inr ⟨rfl, hcontrol (.inr rfl), hurgent rfl, hc⟩)

/-- R81, R88: the oldest frame of the highest class is sent next. -/
theorem SendQueue.nextTransmission_eq {q : SendQueue} {c : TrafficClass} {f : SealedFrame} {l : List SealedFrame}
    (hc : q.filled c = f :: l) (hcontrol : c = .urgent ∨ c = .bulk → q.control = [])
    (hurgent : c = .bulk → q.urgent = []) (first : Bool) : q.nextTransmission first = .frame c (f.lineOctets first) := by
  have hnext : q.nextClass = some c := SendQueue.nextClass_highest (hc ▸ List.cons_ne_nil f l) hcontrol hurgent
  rw [SendQueue.nextTransmission, hnext]
  simp only [hc]

/-- R83: the claim's last bit brings the line watch to BOUNDARY. -/
theorem Access.takeStationBits_third {x : Access} (h : x.watch = .claim) :
    x.takeStationBits 3 = { x with watch := .boundary, stationBits := 0 } := by
  rw [Access.takeStationBits, h]
  rfl

/-- R87, R88: a won claim with PACE at GO. -/
theorem Access.winClaim_go {x : Access} (hp : x.pace = .go) (hw : x.watch = .claim) (q : SendQueue) :
    x.winClaim q =
      { x with
        state := .sending, watch := .boundary, stationBits := 0, sentInBurst := 0
        transmission := q.nextTransmission true } := by
  unfold Access.winClaim
  split
  case h_1 hhold => exact absurd (hp.symm.trans hhold) (by decide)
  case h_2 => rw [Access.takeStationBits_third hw]

/-- R87: a won claim with PACE at HOLD. -/
theorem Access.winClaim_hold {x : Access} (hp : x.pace = .hold) (hw : x.watch = .claim) (q : SendQueue) :
    x.winClaim q = { x with state := .reserved, watch := .boundary, stationBits := 0, transmission := .none } := by
  unfold Access.winClaim
  split
  case h_1 => rw [Access.takeStationBits_third hw]
  case h_2 hgo => exact absurd (hp.symm.trans hgo) (by decide)

theorem exec_claimWon {s : State} (h : s.Clocked) (hs : s.access.state = .claiming) (hw : s.access.watch = .claim) :
    exec .claimWon s = .next (s.modAccess fun _ => (s.lineTo s.access).access.winClaim s.sendQueue) := by
  have hwin : s.access.mayWin = true := by rw [Access.mayWin, hs, hw]; rfl
  exact State.lineEvent_clocked h hwin (fun s => s.modAccess (fun x => x.winClaim s.sendQueue))

/-- Settles O28: PACE at GO and at HOLD. -/
theorem wonClaimSendsTheHighestClass : Obligations.WonClaimSendsTheHighestClass := by
  unfold Obligations.WonClaimSendsTheHighestClass
  intro s c f l h hs hw
  let x : Access := (s.lineTo s.access).access
  refine ⟨fun hp hc hcontrol hurgent => ?go, fun hp => ?hold⟩
  case go =>
    rw [exec_claimWon h hs hw, Access.winClaim_go (x := x) hp hw, SendQueue.nextTransmission_eq hc hcontrol hurgent]
    rfl
  case hold =>
    rw [exec_claimWon h hs hw, Access.winClaim_hold (x := x) hp hw]
    rfl

/-! ## Clashes and releases (R89 to R91) -/

theorem exec_clash {s : State} {c : TrafficClass} {o : List Byte} (h : s.Clocked) (hs : s.access.state = .sending)
    (ht : s.access.transmission = .frame c o) :
    exec .clash s = .next ((s.countStation .clash).lineTo s.access.clash) := by
  have hsending : s.access.sendingClass.isSome = true := by rw [Access.sendingClass, hs, ht]; rfl
  exact State.lineEvent_clocked h hsending (fun s => (s.countStation .clash).modAccess Access.clash)

theorem exec_burstRelease {s : State} (h : s.Clocked) (hs : s.access.state = .sending)
    (ht : s.access.transmission = .ended ∨ ∃ a o, s.access.transmission = .aborting a o) :
    exec .burstRelease s = .next (s.lineTo s.access).releaseBurst := by
  have hdue : s.access.releaseDue = true := by
    obtain ht | ⟨a, o, ht⟩ := ht <;> (rw [Access.releaseDue, hs, ht])
  exact State.lineEvent_clocked h hdue State.releaseBurst

/-- R89: the burst was ended by something else than the third consecutive clash. -/
theorem Access.thirdClash_eq_false {x : Access}
    (h : x.transmission = .ended ∨ (∃ o, x.transmission = .aborting .pace o) ∨
      ((∃ o, x.transmission = .aborting .clash o) ∧ x.clashes < 3)) : x.thirdClash = false := by
  obtain ht | ⟨o, ht⟩ | ⟨⟨o, ht⟩, hlt⟩ := h
  · rw [Access.thirdClash, ht]
  · rw [Access.thirdClash, ht]
  · rw [Access.thirdClash, ht]
    exact decide_eq_false (Nat.not_le.2 hlt)

/-- R89: a release that does not lead to STANDOFF. -/
theorem State.releaseBurst_released {s : State} (h : s.access.thirdClash = false) :
    s.releaseBurst = s.modAccess Access.release := by
  rw [State.releaseBurst, h]
  rfl

/-- R89, R91: the release after the third consecutive clash, with the engine BUSY. -/
theorem State.releaseBurst_standsOff {s : State} (hb : s.Busy) (h : s.access.thirdClash = true) :
    s.releaseBurst =
      (s.modAccess fun x => x.standOff (s.time.milliseconds + standoffLength s.provisioning.serial)).handReport
        stationClashReport := by
  rw [State.releaseBurst, h, if_pos rfl]
  exact State.settle_handReport _ hb.busy hb.inbox

theorem exec_standoffExpiry {s : State} {t : Nat} (hr : s.power.running = true) (hs : s.access.state = .standoff)
    (hd : s.access.standoffDeadline = some t) (hu : s.Unobstructed t) :
    exec .standoffExpiry s = .next ((s.comesTo t).modAccess Access.endStandoff) := by
  have hexpires : (s.access.state == .standoff && s.expires s.access.standoffDeadline) = true := by
    rw [hs, State.expires_of_unobstructed hd hu]
    rfl
  show execStandoffExpiry s = _
  rw [execStandoffExpiry, hexpires, State.event_running hr, State.reachDeadline_eq_comesTo hd]

/-- Settles O30: the clash, the releases, the third clash's release and the expiry of the standoff. -/
theorem clashesReleasesAndStandoff : Obligations.ClashesReleasesAndStandoff := by
  unfold Obligations.ClashesReleasesAndStandoff
  refine ⟨fun s h hs => ⟨fun c o ht => exec_clash h hs ht, fun hend => ?releases⟩,
    fun s => ⟨fun h hb hs hclash h3 => ?third, fun t hr hs hd hu => exec_standoffExpiry hr hs hd hu⟩⟩
  case releases =>
    have hdue : s.access.transmission = .ended ∨ ∃ a o, s.access.transmission = .aborting a o :=
      hend.imp_right fun ht => ht.elim (fun ⟨o, ht⟩ => ⟨_, o, ht⟩) (fun ⟨⟨o, ht⟩, _⟩ => ⟨_, o, ht⟩)
    have hthird : (s.lineTo s.access).access.thirdClash = false := Access.thirdClash_eq_false hend
    have released {x : Access} (hx : (s.lineTo s.access).access.release = x) :
        exec .burstRelease s = .next (s.modAccess fun _ => x) := by
      rw [exec_burstRelease h hs hdue, State.releaseBurst_released hthird, ← hx]
      rfl
    exact ⟨fun h0 => released (if_pos h0), fun h0 => released (if_neg h0)⟩
  case third =>
    obtain ⟨o, ht⟩ := hclash
    have hthird : s.access.thirdClash = true := by
      rw [Access.thirdClash, ht]
      exact decide_eq_true h3
    have hbusy : (s.lineTo s.access).Busy := ⟨hb.running, hb.busy, hb.inbox⟩
    rw [exec_burstRelease h hs (.inr ⟨_, o, ht⟩), State.releaseBurst_standsOff hbusy hthird]
    rfl

/-! ## The trunk clock (R77, R95 to R97) -/

theorem Receiver.cutsFrame_iff (r : Receiver) : r.cutsFrame = true ↔ r.state = .frame ∨ r.state = .escaped := by
  rw [Receiver.cutsFrame, Bool.or_eq_true, beq_iff_eq, beq_iff_eq]

/-- R77: a frame in reception is cut off. -/
theorem State.receiverClockLoss_cut {s : State} (h : s.receiver.state = .frame ∨ s.receiver.state = .escaped) :
    s.receiverClockLoss = { s.countStation .malformed with receiver := { state := .hunt, staging := [] } } := by
  rw [State.receiverClockLoss, (Receiver.cutsFrame_iff _).2 h]
  rfl

/-- R77: with no frame in reception the receiver goes to HUNT and nothing is counted. -/
theorem State.receiverClockLoss_uncut {s : State} (h : ¬(s.receiver.state = .frame ∨ s.receiver.state = .escaped)) :
    s.receiverClockLoss = { s with receiver := { state := .hunt, staging := [] } } := by
  rw [State.receiverClockLoss, if_neg (mt (Receiver.cutsFrame_iff _).1 h)]
  rfl

/-- R95: a loss detected with the engine BUSY ends with its report. -/
theorem State.clockLost_busy {s : State} (hb : s.Busy) : s.clockLost =
    (((s.countStation .clockLoss).modAccess Access.clockLoss).receiverClockLoss).handReport trunkClockReport := by
  unfold State.clockLost State.receiverClockLoss
  split <;> exact State.settle_handReport _ hb.busy hb.inbox

theorem exec_trunkClockLoss {s : State} {t : Nat} (hr : s.power.running = true) (hd : s.access.clockDeadline = some t)
    (hu : s.Unobstructed t) : exec .trunkClockLoss s = .next (s.comesTo t).clockLost := by
  show execTrunkClockLoss s = _
  rw [execTrunkClockLoss, State.expires_of_unobstructed hd hu, State.event_running hr, State.reachDeadline_eq_comesTo hd]

theorem exec_trunkClockReturn {s : State} (hr : s.power.running = true) (hd : s.access.clockDeadline = none) :
    exec .trunkClockReturn s = .next (s.lineTo s.access.clockReturns) := by
  have hlost : (!s.clockRuns) = true := by rw [State.clockRuns, hd]; rfl
  show execTrunkClockReturn s = _
  rw [execTrunkClockReturn, hlost]
  exact State.event_running hr _

/-- Settles O32: the loss at the end of its measure, and the return. -/
theorem trunkClockLossAndReturn : Obligations.TrunkClockLossAndReturn := by
  unfold Obligations.TrunkClockLossAndReturn
  refine fun s => ⟨fun t hb hd hu => ?loss, exec_trunkClockReturn⟩
  obtain ⟨d, hframe⟩ := s.comesTo_frame t
  have hbusy : (s.comesTo t).Busy := by
    rw [hframe]
    exact ⟨hb.running, hb.busy, hb.inbox⟩
  rw [exec_trunkClockLoss hb.running hd hu, State.clockLost_busy hbusy]
  generalize (s.comesTo t).time = time at hframe
  rw [hframe]
  by_cases hcut : s.receiver.state = .frame ∨ s.receiver.state = .escaped
  · rw [if_pos hcut, State.receiverClockLoss_cut]
    · rfl
    · exact hcut
  · rw [if_neg hcut, State.receiverClockLoss_uncut]
    · rfl
    · exact hcut

end Sys2Proof.Machine
end

section
/-! What the engine, the Management Unit, the Fault Report Queue and the monitors leave alone: the record of the Trunk
Access Controller. Of their operations a place's filling alone changes it (R86). -/

namespace Sys2Proof.Machine

variable (s : State)

/-! ## Reports and answers (R144 to R152, R160) -/

@[simp] theorem State.sendAttempt_access : s.sendAttempt.access = s.access := by
  obtain ⟨q, l, h⟩ := s.sendAttempt_frame
  rw [h]

@[simp] theorem State.handReport_access (p : Report) : (s.handReport p).access = s.access := by
  obtain ⟨q, l, c, h⟩ := s.handReport_frame p
  rw [h]

@[simp] theorem State.returnRecord_access (n : W16) : (s.returnRecord n).access = s.access := by
  unfold State.returnRecord
  split <;> simp

@[simp] theorem State.acknowledge_access (l : List W16) : (s.acknowledge l).1.access = s.access := by
  unfold State.acknowledge
  extract_lets r t
  split <;> simp [t]

@[simp] theorem State.offerAnswer_access (k t : Byte) (c : Completion) (b : List Byte) (x m : Bool) :
    (s.offerAnswer k t c b x m).access = s.access := by
  obtain ⟨_, h⟩ | ⟨_, h⟩ := s.offerAnswer_cases k t c b x m <;> rw [h] <;> rfl

@[simp] theorem State.joinInbox_access (m : ControlMessage) : (s.joinInbox m).access = s.access := by
  obtain ⟨_, h⟩ | ⟨_, h⟩ := s.joinInbox_cases m <;> rw [h] <;> rfl

/-! ## Renewal (R99 to R117) -/

@[simp] theorem State.offerRenewRequest_access (a : AssocId) : (s.offerRenewRequest a).access = s.access := by
  obtain h | ⟨_, _, h⟩ := s.offerRenewRequest_cases a <;> rw [h]
  rfl

@[simp] theorem State.startRenewTimer_access (a : AssocId) : (s.startRenewTimer a).access = s.access := rfl

@[simp] theorem State.evaluateDue_access (a : AssocId) : (s.evaluateDue a).access = s.access := by
  obtain ⟨_, _, h⟩ | ⟨_, _, h⟩ | ⟨_, h⟩ := s.evaluateDue_cases a <;> rw [h] <;> simp

@[simp] theorem State.evaluateAll_access (l : List AssocId) : (s.evaluateAll l).access = s.access :=
  State.evaluateAll_keeps (fun t => t.access = s.access) (fun t a h => (t.evaluateDue_access a).trans h) l s rfl

@[simp] theorem State.promote_access (a : AssocId) (b : BankId) : (s.promote a b).access = s.access :=
  State.evaluateDue_access _ a

@[simp] theorem State.renewTimerExpires_access (a : AssocId) : (s.renewTimerExpires a).access = s.access := by
  unfold State.renewTimerExpires
  split
  · rfl
  · split_ifs <;> simp

@[simp] theorem State.drainExpiry_access (a : AssocId) (b : BankId) : (s.drainExpiry a b).access = s.access := by
  unfold State.drainExpiry
  split
  · rfl
  · split_ifs <;> rfl

@[simp] theorem State.exhaust_access (a : AssocId) (b : BankId) : (s.exhaust a b).access = s.access := by
  unfold State.exhaust
  extract_lets t
  split <;> simp [t]

@[simp] theorem State.endTransaction_access (a : AssocId) (c : Completion) :
    (s.endTransaction a c).access = s.access := by
  unfold State.endTransaction
  split <;> simp

@[simp] theorem State.wrapReject_access (a : AssocId) : (s.wrapReject a).access = s.access :=
  State.handReport_access _ _

@[simp] theorem State.finishOffer_access (i : UnwrapItem) (key : Key) (p : Bool) :
    (s.finishOffer i key p).access = s.access := by
  unfold State.finishOffer
  split
  · split_ifs <;> simp
  · simp
  · simp

/-! ## The Cipher Engine (R43 to R60) -/

@[simp] theorem State.admitOutbound_access (i : OutItem) : (s.admitOutbound i).access = s.access := by
  unfold State.admitOutbound State.bindOutbound
  extract_lets r
  split
  · rfl
  · split_ifs <;> simp

@[simp] theorem State.admitInbound_access (i : InItem) : (s.admitInbound i).access = s.access := by
  unfold State.admitInbound State.bindInbound
  extract_lets r
  split_ifs <;> simp

@[simp] theorem State.admitUnwrap_access (i : UnwrapItem) : (s.admitUnwrap i).access = s.access := by
  unfold State.admitUnwrap State.bindUnwrap
  split_ifs <;> simp

@[simp] theorem State.serve_access (c : ArbiterChoice) : (s.serve c).access = s.access := by
  cases c with
  | unwrap =>
    show s.serveUnwrap.access = s.access
    unfold State.serveUnwrap
    split <;> simp
  | inbound =>
    show s.serveInbound.access = s.access
    unfold State.serveInbound
    split <;> simp
  | outbound =>
    show s.serveOutbound.access = s.access
    unfold State.serveOutbound
    split <;> simp

@[simp] theorem State.acceptInbound_access (i : InItem) : (s.acceptInbound i).access = s.access := by
  rw [State.acceptInbound_eq]
  extract_lets t
  split <;> simp [t]

@[simp] theorem State.deliver_access (i : InItem) (p : List Byte) : (s.deliver i p).access = s.access := by
  unfold State.deliver State.joinDelivery
  split_ifs <;> simp

@[simp] theorem State.completeInbound_access (i : InItem) (p g : List Byte) :
    (s.completeInbound i p g).access = s.access := by
  unfold State.completeInbound
  extract_lets t
  split_ifs <;> simp [t]

@[simp] theorem State.completeUnwrap_access (i : UnwrapItem) (key : Key) (p : Bool) :
    (s.completeUnwrap i key p).access = s.access := by
  simp [State.completeUnwrap]

/-! ## Control messages (R158 to R168) -/

@[simp] theorem State.reply_access (m : ControlMessage) (c : Completion) (b : List Byte) :
    (s.reply m c b).access = s.access := s.offerAnswer_access _ _ _ _ _ _

@[simp] theorem State.reject_access (m : ControlMessage) (c : Completion) : (s.reject m c).access = s.access :=
  s.reply_access _ _ _

@[simp] theorem State.conclude_access (m : ControlMessage) (c : Completion) (b : List Byte) :
    (s.conclude m c b).access = s.access := by
  unfold State.conclude
  split <;> simp

theorem TableId.writeEntry_access (t : TableId) (w : Written) (i : Nat) (e : List Byte) :
    (t.writeEntry w i e).1.access = w.1.access := by
  cases t with
  | assocConfig =>
    show (writePolicyEntry w i e).1.access = w.1.access
    unfold writePolicyEntry
    split
    · split <;> rfl
    · rfl
  | flow =>
    show (writeFlowEntry w i e).1.access = w.1.access
    unfold writeFlowEntry
    split <;> rfl
  | monitor =>
    show (writeMonitorEntry w i e).1.access = w.1.access
    unfold writeMonitorEntry
    split
    · split <;> rfl
    · rfl
  | _ => rfl

@[simp] theorem State.writeEntries_access (t : TableId) (first count : Nat) (l : List Byte) :
    (s.writeEntries t first count l).1.access = s.access :=
  List.foldlRecOn (motive := fun w : Written => w.1.access = s.access) _ _ rfl
    fun _ h _ _ => (t.writeEntry_access _ _ _).trans h

@[simp] theorem State.takeTableWrite_access (m : ControlMessage) : (s.takeTableWrite m).access = s.access := by
  unfold State.takeTableWrite
  extract_lets table first count
  split
  · simp
  · extract_lets w body named
    split_ifs <;> simp [w]

@[simp] theorem State.openAssoc_access (a : AssocId) : (s.openAssoc a).1.access = s.access := by
  unfold State.openAssoc
  split
  · rfl
  · split <;> rfl

@[simp] theorem State.closeAssoc_access (a : AssocId) : (s.closeAssoc a).1.access = s.access := by
  unfold State.closeAssoc State.startClosing
  split
  · rfl
  · split <;> simp

@[simp] theorem State.keyOffer_access (o : Byte) (g : W16) (t : Byte) (v : Carrier) (k : Key) (c : BitVec 64) :
    (s.keyOffer o g t v k c).1.access = s.access := by
  unfold State.keyOffer State.beginTransaction
  split
  · rfl
  · split <;> simp

@[simp] theorem State.keySwitch_access (o : Byte) (g : W16) : (s.keySwitch o g).1.access = s.access := by
  unfold State.keySwitch
  split
  · rfl
  · split <;> split_ifs <;> simp

@[simp] theorem State.keyWithdraw_access (o : Byte) (g : W16) : (s.keyWithdraw o g).1.access = s.access := by
  unfold State.keyWithdraw
  split
  · rfl
  · split
    · rfl
    · split_ifs <;> simp

@[simp] theorem State.handleMessage_access (m : ControlMessage) (k : MessageKind) :
    (s.handleMessage m k).access = s.access := by
  cases k with
  | echo => exact s.reply_access _ _ _
  | tableRead => exact s.conclude_access _ _ _
  | tableWrite => exact s.takeTableWrite_access m
  | assocOpen =>
    show (s.takeAssocOpen m).access = s.access
    unfold State.takeAssocOpen State.assocAnswer
    split <;> simp
  | assocClose =>
    show (s.takeAssocClose m).access = s.access
    unfold State.takeAssocClose State.assocAnswer
    split <;> simp
  | assocResume =>
    show (s.takeAssocResume m).access = s.access
    unfold State.takeAssocResume State.assocAnswer State.resumeAssoc
    split <;> simp
  | keyOffer =>
    show (s.takeKeyOffer m).access = s.access
    unfold State.takeKeyOffer
    extract_lets r
    split <;> simp [r]
  | keySwitch => simp [State.handleMessage, State.takeKeySwitch]
  | keyWithdraw => simp [State.handleMessage, State.takeKeyWithdraw]
  | monitorClear =>
    show (s.takeMonitorClear m).access = s.access
    unfold State.takeMonitorClear
    extract_lets o
    split <;> simp
  | reportAck => simp [State.handleMessage, State.takeReportAck]
  | serviceSet =>
    show (s.takeServiceSet m).access = s.access
    unfold State.takeServiceSet
    extract_lets v
    split <;> simp
  | restart => simp [State.handleMessage, State.takeRestart]

@[simp] theorem State.takeHead_access : s.takeHead.access = s.access := by
  unfold State.takeHead State.takeMessage
  split
  · rfl
  · split <;> simp

/-- R44, R158: the settling of an event. -/
@[simp] theorem State.settle_access : s.settle.access = s.access :=
  State.settle_keeps (fun t => t.access = s.access) (fun t h _ => t.takeHead_access.trans h)
    (fun t c h _ => (t.serve_access c).trans h) (fun _ h => h) s rfl

/-! ## The monitors (R125 to R139) -/

@[simp] theorem State.inhibitExpires_access (m : MonitorId) : (s.inhibitExpires m).access = s.access := by
  unfold State.inhibitExpires
  extract_lets r
  split <;> rfl

@[simp] theorem State.runAction_access (c : MonitorConfig) : (s.runAction c).access = s.access := by
  unfold State.runAction State.askRenewal State.suspendAssoc
  split <;> simp

@[simp] theorem State.takeSample_access (m : MonitorId) : (s.takeSample m).access = s.access := by
  unfold State.takeSample State.sampleEffect State.fire
  split
  · extract_lets r p
    split
    · rfl
    · extract_lets report
      split <;> simp
    · simp
  · rfl

/-! ## The Shop Port and the Trunk Receiver (R22 to R32, R67 to R77) -/

@[simp] theorem State.shopFrame_access (o : List Byte) (e : Bool) : (s.shopFrame o e).access = s.access := by
  have protects (t : State) (a : AssocId) (p : List Byte) : (t.protectFrame a p).access = t.access := by
    unfold State.protectFrame
    split_ifs <;> simp
  unfold State.shopFrame State.classify
  extract_lets frame t
  split_ifs
  · rfl
  · rfl
  · split
    · rfl
    · split_ifs
      · rfl
      · exact protects _ _ _

@[simp] theorem State.receiveOctet_access (o : Byte) : (s.receiveOctet o).access = s.access := by
  have forBank (t : State) (c : List Byte) : (t.frameForBank c).access = t.access := by
    unfold State.frameForBank
    extract_lets a
    split
    · rfl
    · split_ifs <;> simp
  have arrives (t : State) (c : List Byte) : (t.trunkFrame c).access = t.access := by
    unfold State.trunkFrame
    extract_lets a
    split_ifs <;> simp [forBank]
  unfold State.receiveOctet State.framingEffect
  split
  · rfl
  · rfl
  · exact arrives _ _

@[simp] theorem State.receiverClockLoss_access : s.receiverClockLoss.access = s.access := by
  unfold State.receiverClockLoss
  split <;> rfl

end Sys2Proof.Machine
end

section
/-! The line watch and the access states that follow it, the station's own claim and its loss, sent frames, and PACE
(R82 to R84, R86 to R88, R92 to R94, R168). -/

namespace Sys2Proof.Machine

/-! ## Line-quiet, open-gap and another station's claim (R84, R86, R92) -/

/-- R81: no class is next exactly where none holds a frame. -/
theorem SendQueue.nextClass_eq_none_iff (q : SendQueue) :
    q.nextClass = none ↔ q.control = [] ∧ q.urgent = [] ∧ q.bulk = [] := by
  unfold SendQueue.nextClass
  split_ifs with hcontrol hurgent hbulk <;> simp_all

theorem SendQueue.turnState_eq_turn (q : SendQueue) : q.turnState = q.turn := by
  unfold SendQueue.turnState SendQueue.turn
  by_cases hempty : q.control = [] ∧ q.urgent = [] ∧ q.bulk = []
  · rw [if_pos hempty, (q.nextClass_eq_none_iff).2 hempty]
    rfl
  · rw [if_neg hempty, if_pos (Option.isSome_iff_ne_none.2 (mt q.nextClass_eq_none_iff.1 hempty))]

theorem Access.lineQuiet_eq (x : Access) (q : SendQueue) :
    x.lineQuiet q = { x with idleCount := 16, state := if x.state = .listen then q.turn else x.state } := by
  rw [Access.lineQuiet, q.turnState_eq_turn]

/-- R84: an open-gap that no DEFERRED station counts. -/
theorem Access.openGap_other {x : Access} (h : x.state ≠ .deferred) (q : SendQueue) :
    x.openGap q = { x with idleCount := 16 * (x.idleCount / 16 + 1) } := by
  unfold Access.openGap Access.countGap
  split
  case h_1 hdeferred => exact absurd hdeferred h
  case h_2 => rfl

/-- R92: the second open-gap ends the deferral. -/
theorem Access.openGap_deferred {x : Access} (h : x.state = .deferred) (q : SendQueue) :
    x.openGap q =
      { x with
        idleCount := 16 * (x.idleCount / 16 + 1)
        openGaps := x.openGaps + 1
        state := if x.openGaps = 0 then .deferred else q.turn } := by
  have hsecond : (if 2 ≤ x.openGaps + 1 then q.turnState else .deferred) =
      if x.openGaps = 0 then AccessState.deferred else q.turn := by
    rw [q.turnState_eq_turn]
    by_cases h0 : x.openGaps = 0
    · rw [if_pos h0, if_neg (by omega)]
    · rw [if_neg h0, if_pos (by omega)]
  unfold Access.openGap Access.countGap
  split
  case h_1 => rw [← hsecond]; rfl
  case h_2 hother => exact absurd h hother

section
variable {s : State} (h : s.Clocked)
include h

theorem exec_lineQuiet (hw : s.access.watch = .rest) (hi : s.access.idleCount < 16) :
    exec .lineQuiet s = .next (s.modAccess fun _ => s.clockEdge.access.lineQuiet s.sendQueue) := by
  have hdue : s.access.quietDue = true := by rw [Access.quietDue, hw, decide_eq_true hi]; rfl
  exact State.lineEvent_clocked h hdue (fun s => s.modAccess (fun x => x.lineQuiet s.sendQueue))

theorem exec_openGap (hw : s.access.watch = .rest) (hi : 16 ≤ s.access.idleCount) :
    exec .openGap s = .next (s.modAccess fun _ => s.clockEdge.access.openGap s.sendQueue) := by
  have hquiet : s.access.quiet = true := by rw [Access.quiet, hw, decide_eq_true hi]; rfl
  exact State.lineEvent_clocked h hquiet (fun s => s.modAccess (fun x => x.openGap s.sendQueue))

/-- R83: what the line watch takes. -/
theorem exec_lineWatchOctet {i : WatchInput} (hi : s.access.takesInput i = true) :
    exec (.lineWatchOctet i) s = .next (s.modAccess fun _ => s.clockEdge.access.watchInput s.sendQueue i) :=
  State.lineEvent_clocked h hi (fun s => s.modAccess (fun x => x.watchInput s.sendQueue i))

theorem exec_claimByOtherStation (hw : s.access.watch = .rest) :
    exec .claimByOtherStation s = .next (s.lineTo s.access.otherClaim) :=
  State.lineEvent_clocked h (beq_iff_eq.2 hw) (fun s => s.modAccess Access.otherClaim)

end

/-! ## Single 1 bits (R84) -/

theorem Access.idleBit_quiet {x : Access} (h : x.idleCount = 15) (q : SendQueue) : x.idleBit q = x.lineQuiet q :=
  if_pos (by omega)

theorem Access.idleBit_gap {x : Access} (h : 16 ≤ x.idleCount) (hgap : (x.idleCount + 1) % 16 = 0) (q : SendQueue) :
    x.idleBit q = x.openGap q :=
  (if_neg (by omega)).trans (if_pos ⟨by omega, hgap⟩)

theorem Access.idleBit_counted {x : Access} (h : (x.idleCount + 1) % 16 ≠ 0) (q : SendQueue) :
    x.idleBit q = { x with idleCount := x.idleCount + 1 } :=
  (if_neg (by omega)).trans (if_neg fun hgap => h hgap.2)

/-- Settles O25: the three events, and a single 1 bit by what its count comes to. -/
theorem restEventsMoveTheAccessState : Obligations.RestEventsMoveTheAccessState := by
  unfold Obligations.RestEventsMoveTheAccessState
  intro s h hw
  have hbit : exec (.lineWatchOctet .idleBit) s =
      .next (s.modAccess fun _ => s.clockEdge.access.idleBit s.sendQueue) :=
    exec_lineWatchOctet h (beq_iff_eq.2 hw)
  refine ⟨fun hi => ?quiet, fun hi hs => ?gap, fun hi hs => ?gapDeferred, fun hi => ?bitQuiet, fun hi hgap => ?bitGap,
    fun hgap => ?bit, exec_claimByOtherStation h hw⟩
  case quiet =>
    rw [exec_lineQuiet h hw hi, Access.lineQuiet_eq]
    rfl
  case gap =>
    rw [exec_openGap h hw hi, Access.openGap_other (x := s.clockEdge.access) hs]
    rfl
  case gapDeferred =>
    rw [exec_openGap h hw hi, Access.openGap_deferred (x := s.clockEdge.access) hs]
    rfl
  case bitQuiet =>
    rw [hbit, Access.idleBit_quiet (x := s.clockEdge.access) hi, exec_lineQuiet h hw (by omega)]
  case bitGap =>
    rw [hbit, Access.idleBit_gap (x := s.clockEdge.access) hi hgap, exec_openGap h hw hi]
  case bit =>
    rw [hbit, Access.idleBit_counted (x := s.clockEdge.access) hgap]
    rfl

/-! ## The line watch (R83) -/

/-- R83: the watch waits for more station bits. -/
theorem Access.takeStationBits_few {x : Access} {n : Nat} (h : x.watch = .claim) (hn : n < 3) :
    x.takeStationBits n = { x with stationBits := n } := by
  rw [Access.takeStationBits, h]
  exact if_neg (Nat.not_le.2 hn)

/-- R83: with the third station bit the watch is octet-aligned. -/
theorem Access.takeStationBits_all {x : Access} {n : Nat} (h : x.watch = .claim) (hn : 3 ≤ n) :
    x.takeStationBits n = { x with watch := .boundary, stationBits := 0 } := by
  rw [Access.takeStationBits, h]
  exact if_pos hn

/-- R83: outside CLAIM the watch takes no station bits. -/
theorem Access.takeStationBits_other {x : Access} (h : x.watch ≠ .claim) (n : Nat) : x.takeStationBits n = x := by
  unfold Access.takeStationBits
  split
  case h_1 hclaim => exact absurd hclaim h
  case h_2 => rfl

theorem Access.watchOctet_boundary {x : Access} (h : x.watch = .boundary) (o : Byte) :
    x.watchOctet o =
      if o = 0xFF then { x with watch := .rest, idleCount := 8 }
      else if o = 0xC9 then x
      else if o = 0xCA then { x with watch := .escaped, octetCount := 1 }
      else { x with watch := .frame, octetCount := 1 } := by
  rw [Access.watchOctet, h]
  rfl

section
variable {x : Access} (h : x.watch = .frame ∨ x.watch = .escaped)
include h

/-- R83: a delimiter inside a frame. -/
theorem Access.watchOctet_delimiter :
    x.watchOctet 0xC9 = { x with watch := .boundary, octetCount := x.octetCount + 1 } := by
  obtain h | h := h <;> (rw [Access.watchOctet, h]; rfl)

/-- R83: another octet inside a frame; one after an escape octet is no escape octet. -/
theorem Access.watchOctet_inside {o : Byte} (ho : o ≠ 0xC9) :
    x.watchOctet o = x.insideFrame (if x.watch = .frame ∧ o = 0xCA then .escaped else .frame) := by
  obtain h | h := h
  · rw [Access.watchOctet, h]
    simp only [true_and]
    exact (if_neg ho).trans (apply_ite x.insideFrame (o = 0xCA) .escaped .frame).symm
  · rw [Access.watchOctet, h]
    exact if_neg ho

/-- R83: an octet inside a frame that the guard lets pass. -/
theorem Access.watchOctet_counted {o : Byte} (ho : o ≠ 0xC9) (hc : x.octetCount < 3076) :
    x.watchOctet o =
      { x with
        watch := if x.watch = .frame ∧ o = 0xCA then .escaped else .frame
        octetCount := x.octetCount + 1 } := by
  have hguard : ¬3076 < x.octetCount + 1 := by omega
  rw [Access.watchOctet_inside h ho]
  split_ifs <;> exact if_neg hguard

/-- R83: the guard. -/
theorem Access.watchOctet_guarded {o : Byte} (ho : o ≠ 0xC9) (hc : 3076 ≤ x.octetCount) :
    x.watchOctet o = { x with watch := .rest, idleCount := 0, octetCount := x.octetCount + 1 } := by
  have hguard : 3076 < x.octetCount + 1 := by omega
  rw [Access.watchOctet_inside h ho]
  split_ifs <;> exact if_pos hguard

theorem Access.watchesFrame_of : x.watchesFrame = true := by
  obtain h | h := h <;> (rw [Access.watchesFrame, h]; rfl)

end

section
variable {s : State} (h : s.Clocked)
include h

theorem exec_busyPeriodEnd (hw : s.access.watch = .boundary) :
    exec .busyPeriodEnd s = .next (s.modAccess fun _ => s.clockEdge.access.watchOctet 0xFF) :=
  State.lineEvent_clocked h (beq_iff_eq.2 hw) (fun s => s.modAccess (fun x => x.watchOctet 0xFF))

theorem exec_lineWatchGuard {o : Byte} (hw : s.access.watch = .frame ∨ s.access.watch = .escaped) (ho : o ≠ 0xC9)
    (hc : 3076 ≤ s.access.octetCount) :
    exec (.lineWatchGuard o) s = .next (s.modAccess fun _ => s.clockEdge.access.watchOctet o) := by
  have hother : (o != delimiter) = true := bne_iff_ne.2 ho
  have hdue : s.access.guardDue o = true := by
    rw [Access.guardDue, Access.watchesFrame_of hw, decide_eq_true (Nat.lt_succ_of_le hc), hother]
    rfl
  exact State.lineEvent_clocked h hdue (fun s => s.modAccess (fun x => x.watchOctet o))

end

/-- Settles O26: station bits in CLAIM, then octets in BOUNDARY and inside a frame. -/
theorem lineWatchFollowsTheTable : Obligations.LineWatchFollowsTheTable := by
  unfold Obligations.LineWatchFollowsTheTable
  intro s h
  refine ⟨fun hw => ?claim, fun hw => ?boundary, fun hw => ?inside⟩
  case claim =>
    have takes (i : WatchInput) (hi : i = .stationBit ∨ i = .thirdStationBit) : s.access.takesInput i = true := by
      obtain rfl | rfl := hi <;> exact beq_iff_eq.2 hw
    have hbit : exec (.lineWatchOctet .stationBit) s =
        .next (s.modAccess fun _ => s.clockEdge.access.takeStationBits (s.access.stationBits + 1)) :=
      exec_lineWatchOctet h (takes _ (.inl rfl))
    have hthird : exec (.lineWatchOctet .thirdStationBit) s =
        .next (s.modAccess fun _ => s.clockEdge.access.takeStationBits 3) :=
      exec_lineWatchOctet h (takes _ (.inr rfl))
    refine ⟨?third, fun hfew => ?few, fun hall => ?all⟩
    case third =>
      rw [hthird, Access.takeStationBits_third (x := s.clockEdge.access) hw]
      rfl
    case few =>
      rw [hbit, Access.takeStationBits_few (x := s.clockEdge.access) hw (Nat.succ_lt_succ hfew)]
      rfl
    case all =>
      rw [hbit, Access.takeStationBits_all (x := s.clockEdge.access) hw (Nat.succ_le_succ hall)]
      rfl
  case boundary =>
    refine ⟨?ended, fun o hff => ?octet⟩
    case ended =>
      rw [exec_busyPeriodEnd h hw, Access.watchOctet_boundary (x := s.clockEdge.access) hw]
      rfl
    case octet =>
      have htakes : s.access.takesInput (.octet o) = true := by rw [Access.takesInput, hw]; rfl
      rw [exec_lineWatchOctet h htakes, Access.watchInput, Access.watchOctet_boundary (x := s.clockEdge.access) hw,
        if_neg hff]
      split_ifs <;> rfl
  case inside =>
    have hoctet (o : Byte) : exec (.lineWatchOctet (.octet o)) s =
        .next (s.modAccess fun _ => s.clockEdge.access.watchOctet o) :=
      exec_lineWatchOctet h (Bool.or_eq_true_iff.2 (.inr (Access.watchesFrame_of hw)))
    refine ⟨?delimiter, fun o ho hc => ?counted, fun o ho hc => ?guard⟩
    case delimiter =>
      rw [hoctet, Access.watchOctet_delimiter (x := s.clockEdge.access) hw]
      rfl
    case counted =>
      rw [hoctet, Access.watchOctet_counted (x := s.clockEdge.access) hw ho hc]
      rfl
    case guard =>
      rw [exec_lineWatchGuard h hw ho hc, Access.watchOctet_guarded (x := s.clockEdge.access) hw ho hc]
      rfl

/-! ## The station's own claim (R86, R87) -/

/-- R86: the condition of a claim's start. -/
theorem Access.mayClaim_iff (x : Access) :
    x.mayClaim = true ↔ x.state = .reserved ∧ x.pace = .go ∧ x.watch = .rest ∧ 16 ≤ x.idleCount := by
  simp [Access.mayClaim, Access.quiet, and_assoc]

section
variable {s : State} (h : s.Clocked)
include h

theorem exec_claimStart (hs : s.access.state = .reserved) (hp : s.access.pace = .go) (hw : s.access.watch = .rest)
    (hi : 16 ≤ s.access.idleCount) (b : Bool) :
    exec (.claimStart b) s = .next (s.lineTo (s.access.startClaim (claimBits s.identity.station) b)) := by
  have hmay : s.access.mayClaim = true := s.access.mayClaim_iff.2 ⟨hs, hp, hw, hi⟩
  refine (State.lineEvent_clocked h hmay
    (fun s => s.modAccess (fun x => x.startClaim (claimBits s.identity.station) b))).trans ?_
  cases b <;> rfl

theorem exec_claimLost (hs : s.access.state = .claiming) (b : Fin 4) :
    exec (.claimLost b) s = .next ((s.countStation .claimLoss).modAccess fun _ => s.clockEdge.access.loseClaim b) :=
  State.lineEvent_clocked h (beq_iff_eq.2 hs)
    (fun s => (s.countStation .claimLoss).modAccess (fun x => x.loseClaim b))

end

/-- R87: a claim lost at a bit, by what the line watch has taken of it. -/
theorem Access.loseClaim_eq (x : Access) (b : Fin 4) : x.loseClaim b =
    { x with
      state := .reserved, transmission := .none
      watch := if b = 3 ∧ x.watch = .claim then .boundary else x.watch
      stationBits := if x.watch = .claim then (if b = 3 then 0 else b.val) else x.stationBits } := by
  unfold Access.loseClaim
  by_cases hw : x.watch = .claim
  · by_cases hb : b = 3
    · rw [Access.takeStationBits_all hw (by omega), if_pos ⟨hb, hw⟩, if_pos hw, if_pos hb]
    · rw [Access.takeStationBits_few hw (by omega), if_neg fun h => hb h.1, if_pos hw, if_neg hb]
  · rw [Access.takeStationBits_other hw, if_neg fun h => hw h.2, if_neg hw]

/-- Settles O27: the start by the bit read back, and the loss by the bit it falls at. -/
theorem claimsStartAndAreLost : Obligations.ClaimsStartAndAreLost := by
  unfold Obligations.ClaimsStartAndAreLost
  intro s h
  refine ⟨fun hs hp hw hi => ⟨exec_claimStart h hs hp hw hi true, exec_claimStart h hs hp hw hi false⟩,
    fun hs b => ?lost⟩
  rw [exec_claimLost h hs b, Access.loseClaim_eq]
  rfl

/-! ## Sent frames (R82, R88, R168) -/

theorem Access.sendingClass_frame {x : Access} {c : TrafficClass} {o : List Byte} (hs : x.state = .sending)
    (ht : x.transmission = .frame c o) : x.sendingClass = some c := by
  rw [Access.sendingClass, hs, ht]

theorem Access.sendingClass_none {x : Access} (h : (∀ c o, x.transmission ≠ .frame c o) ∨ x.state ≠ .sending) :
    x.sendingClass = none := by
  unfold Access.sendingClass
  split
  case h_1 c o hs ht => exact (h.elim (fun h => h c o ht) fun h => h hs).elim
  case h_2 => rfl

/-- R88: with nothing filled the burst ends. -/
theorem SendQueue.nextTransmission_empty {q : SendQueue} (h : q.control = [] ∧ q.urgent = [] ∧ q.bulk = [])
    (first : Bool) : q.nextTransmission first = .ended := by
  rw [SendQueue.nextTransmission, q.nextClass_eq_none_iff.2 h]

/-- R82: the frame that leaves is the oldest of its class. -/
theorem SendQueue.leave_eq {q : SendQueue} {c : TrafficClass} {f : SealedFrame} {l : List SealedFrame}
    (h : q.filled c = f :: l) : q.leave c = q.setFilled c l := by
  rw [SendQueue.leave, h, List.tail_cons]

section
variable {s : State} {c : TrafficClass} {f : SealedFrame} {l : List SealedFrame}

/-- R168: the RESTART answer's frame leaves. -/
theorem State.frameLeaves_reset (hm : f.restartMark = true) (ht : s.management.restartTakenAt.isSome = true) :
    s.frameLeaves c f = s.softReset := by
  rw [State.frameLeaves, hm, ht]
  rfl

/-- R82, R88: another frame leaves, with the engine BUSY. -/
theorem State.frameLeaves_busy (hb : s.Busy) (hm : f.restartMark = false ∨ s.management.restartTakenAt = none)
    (hq : s.sendQueue.filled c = f :: l) :
    s.frameLeaves c f =
      (s.modSendQueue fun _ => s.sendQueue.setFilled c l).modAccess fun x =>
        x.boundary (s.sendQueue.setFilled c l) s.management.settings.burstLimit := by
  have hstays : ¬(f.restartMark && s.management.restartTakenAt.isSome) = true := by
    obtain hm | hm := hm <;> simp [hm]
  rw [State.frameLeaves, if_neg hstays, ← SendQueue.leave_eq hq]
  exact State.settle_busy hb.busy hb.inbox

/-- R82: the end of the frame in transmission. -/
theorem exec_frameSent {o : List Byte} (h : s.Clocked) (hs : s.access.state = .sending)
    (ht : s.access.transmission = .frame c o) (hq : s.sendQueue.filled c = f :: l) :
    exec .frameSent s = .next (s.clockEdge.frameLeaves c f) := by
  have hclass : s.access.sendingClass = some c := Access.sendingClass_frame hs ht
  have hsent : s.clockEdge.sentFrame = s.clockEdge.frameLeaves c f := by
    have hclass : s.clockEdge.access.sendingClass = some c := hclass
    have hq : s.clockEdge.sendQueue.filled c = f :: l := hq
    simp only [State.sentFrame, hclass, hq]
  rw [← hsent]
  exact State.lineEvent_clocked h (Option.isSome_of_eq_some hclass) State.sentFrame

end

/-- Settles O29: the leaving by the frame's mark, and the next frame by the classes filled. -/
theorem sentFrameLeavesAndTheBurstGoesOn : Obligations.SentFrameLeavesAndTheBurstGoesOn := by
  unfold Obligations.SentFrameLeavesAndTheBurstGoesOn
  intro s c f l o h hb hs ht hq q
  refine ⟨fun hm => ?leaves, fun hempty => SendQueue.nextTransmission_empty hempty false,
    fun d g m hd hcontrol hurgent => SendQueue.nextTransmission_eq hd hcontrol hurgent false, fun hm htaken => ?reset⟩
  case leaves =>
    have hbusy : s.clockEdge.Busy := ⟨hb.running, hb.busy, hb.inbox⟩
    rw [exec_frameSent h hs ht hq, State.frameLeaves_busy hbusy hm hq]
    rfl
  case reset =>
    rw [exec_frameSent h hs ht hq, State.frameLeaves_reset (s := s.clockEdge) hm htaken]
    rfl

/-! ## PACE (R93, R94) -/

theorem exec_paceHold {s : State} (hr : s.power.running = true) (hp : s.access.pace = .go) (p : HoldPoint) :
    exec (.paceHold p) s = .next (s.hold p) := by
  show execPaceHold p s = _
  rw [execPaceHold, hp]
  exact State.event_running hr _

theorem exec_paceGo {s : State} (hr : s.power.running = true) (hp : s.access.pace = .hold) :
    exec .paceGo s = .next (s.modAccess fun x => { x with pace := .go }) := by
  show execPaceGo s = _
  rw [execPaceGo, hp]
  exact State.event_running hr _

/-- R93: with no frame chosen or in transmission PACE alone changes. -/
theorem State.hold_unsent {s : State} (h : s.access.sendingClass = none) (p : HoldPoint) :
    s.hold p = s.modAccess fun x => { x with pace := .hold } := by
  unfold State.hold
  rw [h]

section
variable {s : State} {c : TrafficClass} (h : s.access.sendingClass = some c)
include h

/-- R93: a HOLD inside a frame aborts it. -/
theorem State.hold_inFrame : s.hold .inFrame = (s.countStation .paceAbort).modAccess Access.paceAbort := by
  unfold State.hold
  rw [h]

/-- R93: a HOLD in the last octet of the closing delimiter lets the frame end. -/
theorem State.hold_inLastOctet : s.hold .inLastOctet = s.modAccess fun x => { x with pace := .hold } := by
  unfold State.hold
  rw [h]

/-- R93: a HOLD before the first bit of the frame that was chosen ends the burst. -/
theorem State.hold_atBoundary : s.hold .atBoundary = s.modAccess Access.paceEnd := by
  unfold State.hold
  rw [h]

end

/-- Settles O31: a HOLD by where it falls, and GO. -/
theorem paceHoldAbortsAFrameAndGoRestores : Obligations.PaceHoldAbortsAFrameAndGoRestores := by
  unfold Obligations.PaceHoldAbortsAFrameAndGoRestores
  intro s hr
  refine ⟨fun hp hframe hs => ?sending, fun hp hother p => ?other, exec_paceGo hr⟩
  case sending =>
    obtain ⟨c, o, ht⟩ := hframe
    have hclass : s.access.sendingClass = some c := Access.sendingClass_frame hs ht
    exact ⟨(exec_paceHold hr hp _).trans (congrArg _ (State.hold_inFrame hclass)),
      (exec_paceHold hr hp _).trans (congrArg _ (State.hold_inLastOctet hclass)),
      (exec_paceHold hr hp _).trans (congrArg _ (State.hold_atBoundary hclass))⟩
  case other =>
    rw [exec_paceHold hr hp, State.hold_unsent (Access.sendingClass_none hother)]
    rfl

end Sys2Proof.Machine
end

section
/-! Law 9 (R86): the start of the station's own claim alone leads to CLAIMING. -/

namespace Sys2Proof.Machine

/-- The station drives no claim of its own. -/
def Access.Unclaimed (x : Access) : Prop := x.state ≠ .claiming

/-! ## The moves of the access state (R83 to R94) -/

theorem Access.unclaimed_of_state {x y : Access} (h : x.Unclaimed) (hs : y.state = x.state) : y.Unclaimed :=
  fun hc => h (hs.symm.trans hc)

/-- R86, R92: a station leaves LISTEN and DEFERRED for IDLE or RESERVED. -/
theorem SendQueue.turnState_ne_claiming (q : SendQueue) : q.turnState ≠ .claiming := by
  unfold SendQueue.turnState
  split <;> decide

theorem Access.insideFrame_state (x : Access) (w : WatchState) : (x.insideFrame w).state = x.state := by
  unfold Access.insideFrame
  split
  · rfl
  · split <;> rfl

/-- R83: an octet moves the line watch, not the access state. -/
theorem Access.watchOctet_state (x : Access) (o : Byte) : (x.watchOctet o).state = x.state := by
  unfold Access.watchOctet
  split
  · rfl
  · rfl
  · split_ifs <;> rfl
  · split_ifs <;> exact x.insideFrame_state _
  · split_ifs <;> exact x.insideFrame_state _

/-- R83: a station bit moves the line watch, not the access state. -/
theorem Access.takeStationBits_state (x : Access) (n : Nat) : (x.takeStationBits n).state = x.state := by
  unfold Access.takeStationBits
  split
  · split <;> rfl
  · rfl

section
variable {x : Access} (h : x.Unclaimed)
include h

theorem Access.Unclaimed.lineQuiet (q : SendQueue) : (x.lineQuiet q).Unclaimed := by
  show (if x.state = .listen then q.turnState else x.state) ≠ .claiming
  split
  · exact q.turnState_ne_claiming
  · exact h

theorem Access.Unclaimed.openGap (q : SendQueue) : (x.openGap q).Unclaimed := by
  unfold Access.openGap Access.countGap
  split
  · show (if 2 ≤ x.openGaps + 1 then q.turnState else .deferred) ≠ .claiming
    split
    · exact q.turnState_ne_claiming
    · decide
  · exact h

/-- R83: whatever the line watch takes, no claim of the station's own begins. -/
theorem Access.Unclaimed.watchInput (q : SendQueue) (i : WatchInput) : (x.watchInput q i).Unclaimed := by
  cases i with
  | idleBit =>
    show (x.idleBit q).Unclaimed
    unfold Access.idleBit
    split_ifs
    · exact h.lineQuiet q
    · exact h.openGap q
    · exact h
  | stationBit => exact Access.unclaimed_of_state h (x.takeStationBits_state _)
  | thirdStationBit => exact Access.unclaimed_of_state h (x.takeStationBits_state _)
  | octet o => exact Access.unclaimed_of_state h (x.watchOctet_state o)

end

theorem Access.unclaimed_winClaim (x : Access) (q : SendQueue) : (x.winClaim q).Unclaimed := by
  unfold Access.winClaim Access.Unclaimed
  split <;> simp

theorem Access.unclaimed_release (x : Access) : x.release.Unclaimed := by
  unfold Access.release Access.Unclaimed
  split <;> simp

/-- R98: the access state after reset is LISTEN. -/
theorem unclaimed_defaultAccess (p : Pace) : (defaultAccess p).Unclaimed := by simp [Access.Unclaimed, defaultAccess]

/-! ## The operations that reach the access state -/

/-- R171: the passing of time moves the clock-loss measure alone. -/
@[simp] theorem State.reach_accessState (s : State) (t : Nat) : (s.reach t).access.state = s.access.state := by
  unfold State.reach
  split <;> rfl

@[simp] theorem State.reachSecond_accessState (s : State) (d : Option Nat) :
    (s.reachSecond d).access.state = s.access.state := by
  unfold State.reachSecond
  split <;> rfl

@[simp] theorem State.passSecond_accessState (s : State) : s.passSecond.access.state = s.access.state := by
  unfold State.passSecond State.storeSecond
  rw [State.settle_access, State.evaluateAll_access]
  split <;> rfl

section
variable {s : State} (h : s.access.Unclaimed)
include h

/-- R86: a filling leads from IDLE to RESERVED. -/
theorem State.unclaimed_outboundDone : s.outboundDone.access.Unclaimed := by
  have fills (t : State) (c : TrafficClass) (f : SealedFrame) (ht : t.access.Unclaimed) :
      (t.fillPlace c f).access.Unclaimed := by
    show (if t.access.state = .idle then { t.access with state := .reserved } else t.access).Unclaimed
    split
    · simp [Access.Unclaimed]
    · exact ht
  unfold State.outboundDone
  split
  · rw [State.settle_access]
    unfold State.completeOutbound
    extract_lets t
    split
    · exact fills t _ _ h
    · exact h
  · exact h

theorem State.unclaimed_sentFrame : s.sentFrame.access.Unclaimed := by
  unfold State.sentFrame
  split
  · exact h
  · split
    · exact h
    · unfold State.frameLeaves
      split
      · exact unclaimed_defaultAccess _
      · rw [State.settle_access]
        exact h

theorem State.unclaimed_hold (p : HoldPoint) : (s.hold p).access.Unclaimed := by
  unfold State.hold
  split <;> exact h

end

theorem State.unclaimed_releaseBurst (s : State) : s.releaseBurst.access.Unclaimed := by
  unfold State.releaseBurst
  split
  · rw [State.settle_access, State.handReport_access]
    simp [Access.standOff, Access.Unclaimed]
  · exact s.access.unclaimed_release

theorem State.unclaimed_clockLost (s : State) : s.clockLost.access.Unclaimed := by
  simp [State.clockLost, Access.clockLoss, Access.Unclaimed]

theorem State.unclaimed_startUp (s : State) (straps : BitVec 3) (pace : Pace) (o : StartUpOutcome) :
    (s.startUp straps pace o).access.Unclaimed := by
  cases o with
  | completed =>
    simp only [State.startUp, State.completeStartUp, State.settle_access, State.handReport_access]
    exact unclaimed_defaultAccess pace
  | abandonedBeforeWrite c => exact unclaimed_defaultAccess _
  | abandonedAfterWrite c => exact unclaimed_defaultAccess _

/-! ## Commands -/

/-- R173: an event happens where its condition holds, or leaves the state as it is (log entry 9). -/
theorem State.event_next {s t : State} {c : Bool} {f : State → State} (h : s.event c f = .next t) :
    (c = true ∧ t = f s) ∨ t = s := by
  unfold State.event at h
  split at h <;> cases h
  case isTrue hc => exact .inl ⟨(Bool.and_eq_true_iff.1 hc).2, rfl⟩
  case isFalse => exact .inr rfl

/-- R97, R173: so does an event of the trunk lines, at an edge of the trunk clock. -/
theorem State.lineEvent_next {s t : State} {c : Bool} {f : State → State} (h : s.lineEvent c f = .next t) :
    (c = true ∧ t = f s.clockEdge) ∨ t = s :=
  (State.event_next h).imp_left fun ⟨hc, ht⟩ => ⟨(Bool.and_eq_true_iff.1 hc).2, ht⟩

section
variable {s t : State} (hs : s.access.Unclaimed)
include hs

theorem State.unclaimed_of_event {c : Bool} {f : State → State} (h : s.event c f = .next t)
    (hf : (f s).access.Unclaimed) : t.access.Unclaimed := by
  obtain ⟨_, rfl⟩ | rfl := State.event_next h
  · exact hf
  · exact hs

theorem State.unclaimed_of_lineEvent {c : Bool} {f : State → State} (h : s.lineEvent c f = .next t)
    (hf : (f s.clockEdge).access.Unclaimed) : t.access.Unclaimed := by
  obtain ⟨_, rfl⟩ | rfl := State.lineEvent_next h
  · exact hf
  · exact hs

/-- A control message's arrival, its taking and what follows at that event. -/
theorem State.unclaimed_of_message {m : ControlMessage} (h : s.messageEvent m = .next t) : t.access.Unclaimed := by
  refine State.unclaimed_of_event hs h ?_
  rw [State.receiveMessage, State.settle_access, State.joinInbox_access]
  exact hs

end

/-- Every command but the start of a claim leaves a station that drives no claim without one. -/
theorem exec_unclaimed {c : Instr} {s t : State} (hs : s.access.Unclaimed) (hc : ∀ b, c ≠ .claimStart b)
    (h : exec c s = .next t) : t.access.Unclaimed := by
  have frame {u : State} (hu : u.access.state = s.access.state) : u.access.Unclaimed := Access.unclaimed_of_state hs hu
  have edge : s.clockEdge.access.Unclaimed := hs
  cases c <;> simp only [exec] at h
  case claimStart b => exact absurd rfl (hc b)
  case shopFrameArrival o e => exact State.unclaimed_of_event hs h (frame (by simp))
  case shopTransmitStart | shopTransmissionEnd => exact State.unclaimed_of_event hs h (frame rfl)
  case trunkFramingDrop | trunkFrameArrival | trunkReceiveOctet | huntDelimiterFound =>
    exact State.unclaimed_of_lineEvent hs h (frame (by simp))
  case outboundCompletion => exact State.unclaimed_of_event hs h (State.unclaimed_outboundDone hs)
  case inboundCompletion =>
    refine State.unclaimed_of_event hs h (frame ?_)
    unfold State.inboundDone
    split <;> simp
  case unwrapCompletion =>
    refine State.unclaimed_of_event hs h (frame ?_)
    unfold State.unwrapDone
    split <;> simp
  case restartLimitExpiry => exact State.unclaimed_of_event hs h (unclaimed_defaultAccess _)
  case resetCondition c p =>
    cases h
    split
    · exact unclaimed_defaultAccess _
    · unfold State.conditionEnds
      split <;> exact hs
  case startUp straps pace o =>
    cases h
    split
    · exact s.unclaimed_startUp straps pace o
    · exact hs
  case timeBaseSecond => exact State.unclaimed_of_event hs h (frame (by simp))
  case drainDeadlineExpiry | renewRequestTimerExpiry | startupInhibitExpiry | monitorSample | ackDeadlineExpiry
      | pacingTimerExpiry | retryTimerExpiry =>
    exact State.unclaimed_of_event hs h (frame (by simp [State.reachDeadline]))
  case lineQuiet => exact State.unclaimed_of_lineEvent hs h (edge.lineQuiet _)
  case openGap => exact State.unclaimed_of_lineEvent hs h (edge.openGap _)
  case lineWatchOctet i => exact State.unclaimed_of_lineEvent hs h (edge.watchInput _ i)
  case lineWatchGuard | busyPeriodEnd => exact State.unclaimed_of_lineEvent hs h (frame (Access.watchOctet_state _ _))
  case claimByOtherStation | clash => exact State.unclaimed_of_lineEvent hs h (frame rfl)
  case claimLost b => exact State.unclaimed_of_lineEvent hs h (by simp [Access.loseClaim, Access.Unclaimed])
  case claimWon => exact State.unclaimed_of_lineEvent hs h (Access.unclaimed_winClaim _ _)
  case frameSent => exact State.unclaimed_of_lineEvent hs h (State.unclaimed_sentFrame edge)
  case burstRelease => exact State.unclaimed_of_lineEvent hs h (State.unclaimed_releaseBurst _)
  case standoffExpiry => exact State.unclaimed_of_event hs h (by simp [Access.endStandoff, Access.Unclaimed])
  case paceHold p => exact State.unclaimed_of_event hs h (State.unclaimed_hold hs p)
  case paceGo | trunkClockReturn => exact State.unclaimed_of_event hs h (frame rfl)
  case trunkClockLoss => exact State.unclaimed_of_event hs h (State.unclaimed_clockLost _)
  all_goals exact State.unclaimed_of_message hs h

/-- R86, R87: a claim's start that happens found its condition, and drives the claim's bits. -/
theorem exec_claimStart_claims {b : Bool} {s t : State} (hs : s.access.Unclaimed)
    (h : exec (.claimStart b) s = .next t) (ht : t.access.state = .claiming) :
    s.access.mayClaim = true ∧ t.access.transmission = .claim (claimBits s.identity.station) := by
  have hstart : execClaimStart b s = .next t := h
  obtain ⟨hmay, rfl⟩ | rfl := State.lineEvent_next hstart
  · refine ⟨hmay, ?_⟩
    cases b <;> rfl
  · exact absurd ht hs

/-- Settles O10: no other command leads to CLAIMING, and the start of a claim by its condition. -/
theorem claimsStartOnlyFromReservedWithGo : Obligations.ClaimsStartOnlyFromReservedWithGo := by
  unfold Obligations.ClaimsStartOnlyFromReservedWithGo
  intro c s t h ht hs
  by_cases hc : ∃ b, c = .claimStart b
  · obtain ⟨b, rfl⟩ := hc
    obtain ⟨hmay, hdriven⟩ := exec_claimStart_claims hs h ht
    obtain ⟨hreserved, hgo, hrest, hquiet⟩ := s.access.mayClaim_iff.1 hmay
    exact ⟨⟨b, rfl⟩, hreserved, hgo, hrest, hquiet, hdriven⟩
  · exact absurd ht (exec_unclaimed hs (not_exists.1 hc) h)

end Sys2Proof.Machine
end

section
/-! The renewal-due condition and its evaluation (R112 to R114). -/

namespace Sys2Proof.Machine

/-! ## The reasons (R112) -/

@[simp] theorem Assoc.reasonHolds_wear (r : Assoc) (k : Bank) :
    r.reasonHolds k .wear = true ↔ r.policy.softLimit.toNat ≤ k.wear.toNat := decide_eq_true_iff

@[simp] theorem Assoc.reasonHolds_age (r : Assoc) (k : Bank) :
    r.reasonHolds k .age = true ↔ r.policy.maxKeyAge ≠ 0 ∧ r.policy.maxKeyAge.toNat ≤ k.keyAge.toNat := by
  rw [Assoc.reasonHolds, Bool.and_eq_true, bne_iff_ne, decide_eq_true_iff]

@[simp] theorem Assoc.reasonHolds_sequence (r : Assoc) (k : Bank) :
    r.reasonHolds k .sequence = true ↔ 2147483648 ≤ k.nextSequence.toNat := decide_eq_true_iff

@[simp] theorem Assoc.reasonHolds_monitor (r : Assoc) (k : Bank) :
    r.reasonHolds k .monitor = true ↔ r.monitorRenewal = true := Iff.rfl

/-- R112: some reason holds of an association and a bank. -/
theorem Assoc.exists_reasonHolds (r : Assoc) (k : Bank) : (∃ x, r.reasonHolds k x = true) ↔
    r.policy.softLimit.toNat ≤ k.wear.toNat ∨
      (r.policy.maxKeyAge ≠ 0 ∧ r.policy.maxKeyAge.toNat ≤ k.keyAge.toNat) ∨
      2147483648 ≤ k.nextSequence.toNat ∨ r.monitorRenewal = true := by
  constructor
  · rintro ⟨x, hx⟩
    cases x with
    | wear => exact .inl (by simpa using hx)
    | age => exact .inr (.inl (by simpa using hx))
    | sequence => exact .inr (.inr (.inl (by simpa using hx)))
    | monitor => exact .inr (.inr (.inr hx))
  · rintro (h | h | h | h)
    · exact ⟨.wear, (r.reasonHolds_wear k).2 h⟩
    · exact ⟨.age, (r.reasonHolds_age k).2 h⟩
    · exact ⟨.sequence, (r.reasonHolds_sequence k).2 h⟩
    · exact ⟨.monitor, h⟩

theorem Assoc.isDue_iff (r : Assoc) : r.isDue = true ↔ ∃ x, x ∈ r.dueReasons := by
  rw [Assoc.isDue, Bool.not_eq_true', List.isEmpty_eq_false_iff_exists_mem]

/-- R112: the reasons of an association that keeps law 1, those that hold of its ACTIVE bank while no bank is FRESH, no
transaction is open and it is not CLOSING. -/
theorem Assoc.BanksInOrder.mem_dueReasons {r : Assoc} (h : r.BanksInOrder) (x : DueReason) :
    x ∈ r.dueReasons ↔
      ∃ b, (r.bank b).state = .active ∧ (∀ b', (r.bank b').state ≠ .fresh) ∧ r.transaction = none ∧
        r.state ≠ .closing ∧ r.reasonHolds (r.bank b) x = true := by
  have listed : x ∈ [DueReason.wear, .age, .sequence, .monitor] := by cases x <;> simp
  rw [Assoc.dueReasons]
  cases ha : r.activeBank with
  | none =>
    exact ⟨fun hx => absurd hx List.not_mem_nil, fun ⟨b, hb, _⟩ => absurd hb (Assoc.activeBank_eq_none.1 ha b)⟩
  | some b =>
    have only (c : BankId) (hc : (r.bank c).state = .active) : c = b :=
      Option.some.inj ((h.activeBank_eq hc).symm.trans ha)
    dsimp only
    split
    · rename_i hopen
      obtain ⟨hfresh, htransaction, hclosing⟩ := hopen
      rw [List.mem_filter]
      refine ⟨fun ⟨_, hx⟩ => ⟨b, Assoc.bankIn_state ha, Assoc.freshBank_eq_none.1 hfresh, htransaction, hclosing, hx⟩, ?_⟩
      rintro ⟨c, hc, -, -, -, hx⟩
      exact ⟨listed, only c hc ▸ hx⟩
    · rename_i hshut
      exact ⟨fun hx => absurd hx List.not_mem_nil,
        fun ⟨_, _, hfresh, htransaction, hclosing, _⟩ =>
          absurd ⟨Assoc.freshBank_eq_none.2 hfresh, htransaction, hclosing⟩ hshut⟩

/-- R112: an association that keeps law 1 is renewal-due when some reason holds of its ACTIVE bank. -/
theorem Assoc.BanksInOrder.isDue_iff {r : Assoc} (h : r.BanksInOrder) : r.isDue = true ↔
    ∃ b, (r.bank b).state = .active ∧ (∀ b', (r.bank b').state ≠ .fresh) ∧ r.transaction = none ∧
      r.state ≠ .closing ∧ ∃ x, r.reasonHolds (r.bank b) x = true := by
  rw [Assoc.isDue_iff]
  simp only [h.mem_dueReasons]
  constructor
  · rintro ⟨x, b, hb, hfresh, htransaction, hclosing, hx⟩
    exact ⟨b, hb, hfresh, htransaction, hclosing, x, hx⟩
  · rintro ⟨b, hb, hfresh, htransaction, hclosing, x, hx⟩
    exact ⟨x, b, hb, hfresh, htransaction, hclosing, hx⟩

/-- R112: the reasons of an association that is renewal-due, read from its ACTIVE bank. -/
theorem Assoc.BanksInOrder.mem_dueReasons_of_isDue {r : Assoc} (h : r.BanksInOrder) (hd : r.isDue = true) {b : BankId}
    (hb : (r.bank b).state = .active) (x : DueReason) : x ∈ r.dueReasons ↔ r.reasonHolds (r.bank b) x = true := by
  obtain ⟨_, _, hfresh, htransaction, hclosing, _⟩ := h.isDue_iff.1 hd
  rw [h.mem_dueReasons]
  refine ⟨?_, fun hx => ⟨b, hb, hfresh, htransaction, hclosing, hx⟩⟩
  rintro ⟨c, hc, -, -, -, hx⟩
  cases (h.activeBank_eq hb).symm.trans (h.activeBank_eq hc)
  exact hx

/-! ## The evaluation (R113, R114) -/

theorem State.evaluateDue_self (s : State) (a : AssocId) : s.evaluateDue a = s.renewalEvaluated a (s.assoc a) := by
  conv_lhs => rw [← s.setAssoc_self a, State.evaluateDue_setAssoc]

/-- R113, R114: an association that is not due has no timer. -/
theorem State.renewalEvaluated_idle (s : State) (a : AssocId) {r : Assoc} (hd : r.isDue = false) :
    s.renewalEvaluated a r = s.setAssoc a { r with renewDeadline := none } := if_pos hd

/-- R114: an association that is due keeps a timer that runs. -/
theorem State.renewalEvaluated_running (s : State) (a : AssocId) {r : Assoc} (hd : r.isDue = true)
    (ht : r.renewDeadline.isSome = true) : s.renewalEvaluated a r = s.setAssoc a r :=
  (if_neg (by simp [hd])).trans (if_pos ht)

section
variable (s : State) (a : AssocId) {r : Assoc} (hd : r.isDue = true) (ht : r.renewDeadline = none)
include hd ht

/-- R114: an association that becomes due starts its timer, without a RENEW_REQUEST where there is no control room. -/
theorem State.renewalEvaluated_starts (hfull : 16 ≤ s.engine.outbound.length ∨ 32 ≤ s.sendQueue.taken) :
    s.renewalEvaluated a r =
      s.setAssoc a { r with renewDeadline := some (s.time.seconds.toNat + r.policy.renewInterval.toNat) } := by
  rw [State.renewalEvaluated, if_neg (by simp [hd]), if_neg (by simp [ht])]
  cases r.activeBank with
  | none => rfl
  | some b => exact if_neg (by omega)

/-- R113, R115: with control room it sends a RENEW_REQUEST as well. -/
theorem State.renewalEvaluated_requests {b : BankId} (hb : r.activeBank = some b)
    (hroom : s.engine.outbound.length < 16 ∧ s.sendQueue.taken < 32) :
    s.renewalEvaluated a r =
      (s.queued [renewalItem a r b]).setAssoc a
        { r with renewDeadline := some (s.time.seconds.toNat + r.policy.renewInterval.toNat) } := by
  rw [State.renewalEvaluated, if_neg (by simp [hd]), if_neg (by simp [ht]), hb]
  exact if_pos hroom

end

/-- Settles O14: the evaluation by the condition, the timer and the control room, then the condition and its reasons. -/
theorem renewalDueCondition : Obligations.RenewalDueCondition := by
  unfold Obligations.RenewalDueCondition
  refine ⟨fun s a => ?evaluation, fun r h => ⟨?condition, fun hd b hb => ?reasons⟩⟩
  case evaluation =>
    intro r timer started
    rw [State.evaluateDue_self]
    refine ⟨fun hd => s.renewalEvaluated_idle a hd,
      fun hd ht => (s.renewalEvaluated_running a hd ht).trans (s.setAssoc_self a),
      fun hd ht => ⟨fun hfull => s.renewalEvaluated_starts a hd ht hfull, fun b hb hout hplaces => ?_⟩⟩
    exact s.renewalEvaluated_requests a hd ht hb ⟨hout, hplaces⟩
  case condition =>
    rw [h.isDue_iff]
    simp only [Assoc.exists_reasonHolds]
  case reasons =>
    simp only [h.mem_dueReasons_of_isDue hd hb, Assoc.reasonHolds_wear, Assoc.reasonHolds_age, Assoc.reasonHolds_sequence,
      Assoc.reasonHolds_monitor, iff_self, and_self]

end Sys2Proof.Machine
end

section
/-! The maximum key age of a written ASSOC_CONFIG entry (R118). -/

namespace Sys2Proof.Machine

/-- R118, R164: an entry's maximum key age is its octets 12 to 15, and no clamp changes it. -/
theorem clampPolicy_maxKeyAge (a : AssocId) (r : Assoc) {e : List Byte} {p : Policy} (h : policyOfOctets a e = some p) :
    (clampPolicy a r p).maxKeyAge = word32At e 12 := by
  obtain ⟨-, -, -, -, -, hage, -⟩ := policyOfOctets_eq_some.1 h
  rw [clampPolicy_eq, hage]

/-- R164: a write changes no bank. -/
@[simp] theorem Assoc.policed_bank (r : Assoc) (a : AssocId) (p : Policy) (b : BankId) :
    (r.policed a p).bank b = r.bank b := by
  cases b <;> rfl

/-- Settles O15: the write stores the clamped policy, whose maximum key age is the one that AGE reads. -/
theorem maximumKeyAgeTakenAsWritten : Obligations.MaximumKeyAgeTakenAsWritten := by
  unfold Obligations.MaximumKeyAgeTakenAsWritten
  intro s n a e h t
  obtain ⟨p, hp⟩ := Option.isSome_iff_exists.1 h
  have stored : t.assoc a = (s.assoc a).policed a p := by
    simp only [t, writePolicyEntry_eq hp, State.assoc_setAssoc, if_true]
  have hage : (t.assoc a).policy.maxKeyAge = word32At e 12 := by
    rw [stored]
    exact clampPolicy_maxKeyAge a (s.assoc a) hp
  refine ⟨hage, fun b => by rw [stored, Assoc.policed_bank], fun k => ?_⟩
  rw [Assoc.reasonHolds_age, hage]

end Sys2Proof.Machine
end

section
/-! KEY_OFFER (R99 to R102). -/

namespace Sys2Proof.Machine

/-! ## The octets of an offer (R177) -/

/-- R177: a number read back from the octets it is carried in. -/
theorem beNat_beOctets (n v : Nat) : beNat (beOctets n v) = v % 256 ^ n := by
  induction n generalizing v with
  | zero => simp [beNat, beOctets, Nat.mod_one]
  | succ n ih =>
    have front : (List.range n).map (fun i => (BitVec.ofNat 8 (v / 256 ^ (n + 1 - 1 - i)) : Byte)) =
        beOctets n (v / 256) := by
      refine List.map_congr_left fun i hi => ?_
      have hi := List.mem_range.1 hi
      rw [Nat.div_div_eq_div_mul, ← Nat.pow_succ', show n + 1 - 1 - i = n - 1 - i + 1 by omega]
    rw [beOctets, List.range_succ, List.map_append, front, beNat, List.foldl_append, ← beNat, ih, Nat.pow_succ',
      Nat.mod_mul]
    simp
    omega

/-- R177: a number whose width is a whole number of octets. -/
theorem ofNat_beNat_word {n w : Nat} (hw : w = 8 * n) (x : BitVec w) : BitVec.ofNat w (beNat (word n x)) = x := by
  subst hw
  have hlt : x.toNat < 256 ^ n := by
    have := x.isLt
    rwa [Nat.pow_mul] at this
  rw [word, beNat_beOctets, Nat.mod_eq_of_lt hlt, BitVec.ofNat_toNat, BitVec.setWidth_eq]

/-- R100: the octets of the answer to a key message. -/
theorem answerOctets_key (k tag : Byte) (c : Completion) (o : Byte) (g : W16) :
    answerOctets k tag c (keyAnswerBody o g) = [k + 0x80, tag, 0, 4, c.code, o, 0] ++ word 2 g := by
  rw [answerOctets_short _ _ _ _ (by simp [keyAnswerBody])]
  simp [keyAnswerBody]

section
variable (via : Carrier) (tag o : Byte) (g : W16) (wrapped : Key) (check : BitVec 64)

theorem octetAt_keyOfferMessage : octetAt (keyOfferMessage via tag o g wrapped check).octets 4 = o :=
  octetAt_messageOctets_body _ _ _ 0

theorem word16At_keyOfferMessage : word16At (keyOfferMessage via tag o g wrapped check).octets 6 = g := by
  rw [← word16At_drop _ 6 0, keyOfferMessage, drop_messageOctets _ _ _ 2]
  exact word16At_word g _

theorem wrapped_keyOfferMessage :
    ((keyOfferMessage via tag o g wrapped check).octets.drop 8).take 32 = word 32 wrapped := by
  rw [keyOfferMessage, drop_messageOctets _ _ _ 4, List.append_assoc,
    List.drop_left' (show ([o, 0] ++ word 2 g).length = 4 by simp), List.take_left' (length_word 32 wrapped)]

theorem wrapCheck_keyOfferMessage :
    ((keyOfferMessage via tag o g wrapped check).octets.drop 40).take 8 = word 8 check := by
  rw [keyOfferMessage, drop_messageOctets _ _ _ 36,
    List.drop_left' (show ([o, 0] ++ word 2 g ++ word 32 wrapped).length = 36 by simp),
    List.take_of_length_le (by simp)]

variable {via tag o g wrapped check} {s t : State}

/-- R101: the taking of an offer, and its answer where the controller gives one. -/
theorem State.takeKeyOffer_eq {v : Option Completion} (e : s.keyOffer o g tag via wrapped check = (t, v)) :
    s.takeKeyOffer (keyOfferMessage via tag o g wrapped check) =
      v.elim t fun c => t.answeredWith ([0xA0, tag, 0, 4, c.code, o, 0] ++ word 2 g) false := by
  have hcode : octetAt (keyOfferMessage via tag o g wrapped check).octets 0 = 0x20 := octetAt_messageOctets_kind _ _ _
  have htag : octetAt (keyOfferMessage via tag o g wrapped check).octets 1 = tag := octetAt_messageOctets_tag _ _ _
  have hvia : (keyOfferMessage via tag o g wrapped check).via = via := rfl
  unfold State.takeKeyOffer
  simp only [keyBodyOf, State.reply_eq, hcode, htag, hvia, octetAt_keyOfferMessage, word16At_keyOfferMessage,
    wrapped_keyOfferMessage, wrapCheck_keyOfferMessage, ofNat_beNat_word (n := 32) (w := 256) rfl,
    ofNat_beNat_word (n := 8) (w := 64) rfl, e]
  cases v with
  | none => rfl
  | some c => exact congrArg (t.answeredWith · false) (answerOctets_key 0x20 tag c o g)

/-- R100, R101: an offer that is answered at its taking. -/
theorem exec_keyOffer_answered {c : Completion} (h : s.Attentive)
    (e : s.keyOffer o g tag via wrapped check = (s, some c)) :
    exec (.keyOffer via tag o g wrapped check) s =
      .next (s.answeredWith ([0xA0, tag, 0, 4, c.code, o, 0] ++ word 2 g) false) := by
  refine exec_handled (k := .keyOffer) rfl rfl h (by simp) (by simp [MessageKind.allowsLength]) ?_ rfl rfl
  rw [State.handleMessage, State.takeKeyOffer_eq e]
  rfl

/-- R102: an offer that begins a transaction has no answer at its taking. -/
theorem exec_keyOffer_begun (h : s.Attentive) (e : s.keyOffer o g tag via wrapped check = (t, none))
    (hk : t.engine.current = s.engine.current) (hi : t.management.inbox = s.management.inbox) :
    exec (.keyOffer via tag o g wrapped check) s = .next t := by
  refine exec_taken rfl h.listening ?_ hk (hi.trans h.listening.busy.inbox)
  rw [keyOfferMessage, State.takeMessage_spelled .keyOffer _ _ _ (by simp) h.restart (by simp [MessageKind.allowsLength]),
    ← keyOfferMessage, State.handleMessage, State.takeKeyOffer_eq e]
  rfl

end

/-! ## The checks (R101) -/

/-- R101 check 4. -/
theorem Assoc.generationRises_iff (r : Assoc) (g : W16) : r.generationRises g = true ↔
    ∀ b, (r.bank b).state = .empty ∨ (r.bank b).generation.toNat < g.toNat := by
  have below (k : Bank) : k.generationBelow g = true ↔ k.state = .empty ∨ k.generation.toNat < g.toNat := by
    rw [Bank.generationBelow, Bool.or_eq_true, beq_iff_eq, decide_eq_true_iff]
  rw [Assoc.generationRises, Bool.and_eq_true, below, below]
  exact ⟨fun ⟨hA, hB⟩ b => by cases b <;> assumption, fun h => ⟨h .bankA, h .bankB⟩⟩

/-- Law 1: the generation of the FRESH bank. -/
theorem Assoc.BanksInOrder.freshHolds_iff {r : Assoc} (h : r.BanksInOrder) (g : W16) :
    r.freshHolds g = true ↔ ∃ b, (r.bank b).state = .fresh ∧ (r.bank b).generation = g := by
  unfold Assoc.freshHolds
  cases hb : r.freshBank with
  | none =>
    rw [Assoc.freshBank_eq_none] at hb
    exact ⟨fun e => (nomatch e), fun ⟨b, hf, _⟩ => absurd hf (hb b)⟩
  | some b =>
    rw [beq_iff_eq]
    refine ⟨fun e => ⟨b, Assoc.bankIn_state hb, e⟩, fun ⟨c, hc, e⟩ => ?_⟩
    cases hb.symm.trans (h.freshBank_eq hc)
    exact e

/-- Law 1: the bank beside the ACTIVE one is DRAINING or RETIRING. -/
theorem Assoc.BanksInOrder.otherBankBusy_iff {r : Assoc} (h : r.BanksInOrder) : r.otherBankBusy = true ↔
    ∃ b, (r.bank b).state = .active ∧
      ((r.bank (otherBank b)).state = .draining ∨ (r.bank (otherBank b)).state = .retiring) := by
  constructor
  · intro hbusy
    cases hb : r.activeBank with
    | none => simp [Assoc.otherBankBusy, hb] at hbusy
    | some b => exact ⟨b, Assoc.bankIn_state hb, (Assoc.otherBankBusy_of_active hb).1 hbusy⟩
  · rintro ⟨b, hb, ho⟩
    exact (Assoc.otherBankBusy_of_active (h.activeBank_eq hb)).2 ho

section
variable {s : State} {a : AssocId} {g : W16}

/-- R101 check 4: a generation that does not rise and that no FRESH bank holds. -/
theorem State.offerVerdict_stale (hrises : ¬(s.assoc a).generationRises g = true) (hfresh : ¬(s.assoc a).freshHolds g = true) :
    s.offerVerdict a g = some .badValue := by
  simp [State.offerVerdict, hrises, hfresh]

/-- R101 check 5: a generation that the FRESH bank holds. -/
theorem State.offerVerdict_held (hfresh : (s.assoc a).freshHolds g = true) : s.offerVerdict a g = some .done := by
  simp [State.offerVerdict, hfresh]

/-- R101 checks 6 and 7: a bank that drains, and a full Unwrap Queue. -/
theorem State.offerVerdict_rises (hrises : (s.assoc a).generationRises g = true)
    (hfresh : ¬(s.assoc a).freshHolds g = true) :
    s.offerVerdict a g =
      if (s.assoc a).otherBankBusy = true ∨ 4 ≤ s.engine.unwrap.length then some .busy else none := by
  simp only [State.offerVerdict, hrises, hfresh]
  by_cases hbusy : (s.assoc a).otherBankBusy = true <;> simp [hbusy]

end

/-! ## The beginning of a transaction (R99, R113) -/

/-- R112: an association with an open transaction is not renewal-due. -/
theorem Assoc.isDue_transaction {r : Assoc} (h : r.transaction.isSome = true) : r.isDue = false := by
  rw [Assoc.isDue, Assoc.dueReasons]
  cases r.activeBank with
  | none => rfl
  | some b => simp [Option.isSome_iff_ne_none.1 h]

/-- R99, R102: all that the beginning of a transaction does. -/
theorem State.beginTransaction_eq (s : State) (a : AssocId) (g : W16) (tag : Byte) (via : Carrier) (wrapped : Key)
    (check : BitVec 64) :
    s.beginTransaction a g tag via wrapped check =
      (s.joinUnwrap
        { target := a, generation := g, bank := via.bank, bankGeneration := via.generation, sequence := via.sequence,
          wrapped := wrapped, wrapCheck := check }).setAssoc a
        { s.assoc a with
          transaction := some
            { target := a, generation := g, tag := tag, bank := via.bank, bankGeneration := via.generation }
          inFlight := (s.assoc a).inFlight + 1
          renewDeadline := none } :=
  (State.evaluateDue_setAssoc (s.joinUnwrap _) a _).trans
    (State.renewalEvaluated_idle _ a (Assoc.isDue_transaction rfl))

/-- Settles O48: the shared checks, the verdict by the banks and the Unwrap Queue, and the transaction begun. -/
theorem keyOfferChecksThenBegins : Obligations.KeyOfferChecksThenBegins := by
  unfold Obligations.KeyOfferChecksThenBegins
  intro s via tag o g wrapped wrapCheck h offer answer
  have rejected {c : Completion} (e : s.keyMessageCheck o = .error c) : answer c.code :=
    exec_keyOffer_answered h (by rw [State.keyOffer, e])
  refine ⟨fun ho => rejected (c := .badIndex) (by rw [State.keyMessageCheck, assocNamed_none ho]), ?named⟩
  intro a ho hb r freshG rises drains
  have check := s.keyMessageCheck_named ho
  refine ⟨fun hs => rejected (c := .refused) (by rw [check]; exact if_pos hs), fun hs => ?keyed⟩
  have hs' : ¬((s.assoc a).state = .vacant ∨ (s.assoc a).state = .closing) := by
    rintro (e | e) <;> rcases hs with hs | hs | hs <;> cases e.symm.trans hs
  rw [if_neg hs'] at check
  refine ⟨fun ht => rejected (c := .busy) (check.trans (if_pos ht)), fun ht => ?free⟩
  have hok : s.keyMessageCheck o = .ok a := check.trans (if_neg (by rw [show (s.assoc a).transaction = none from ht]; simp))
  have verdict {c : Completion} (e : s.offerVerdict a g = some c) : answer c.code :=
    exec_keyOffer_answered h (by simp only [State.keyOffer, hok, e])
  have hfresh : (s.assoc a).freshHolds g = true ↔ freshG := hb.freshHolds_iff g
  have hrises : (s.assoc a).generationRises g = true ↔ rises := (s.assoc a).generationRises_iff g
  refine ⟨fun hr hf => verdict (c := .badValue) (State.offerVerdict_stale (mt hrises.1 hr) (mt hfresh.1 hf)),
    fun hf => verdict (c := .done) (State.offerVerdict_held (hfresh.2 hf)), fun hr hf => ?_⟩
  have last := State.offerVerdict_rises (hrises.2 hr) (mt hfresh.1 hf)
  have hdrains : (s.assoc a).otherBankBusy = true ↔ drains := hb.otherBankBusy_iff
  refine ⟨fun hbusy => verdict (c := .busy) (last.trans (if_pos (hbusy.imp_left hdrains.2))), fun hd hroom => ?_⟩
  have passes : s.offerVerdict a g = none :=
    last.trans (if_neg (not_or.2 ⟨mt hdrains.1 hd, Nat.not_le.2 hroom⟩))
  exact exec_keyOffer_begun h (by simp only [State.keyOffer, hok, passes, State.beginTransaction_eq]; rfl) rfl rfl

end Sys2Proof.Machine
end

section
/-! What a monitor measures: the source values (R21, R124), the measured value (R126, R128), the conditions (R129). -/

namespace Sys2Proof.Machine

/-! ## The measured value (R126, R128) -/

/-- R128: the rate is the wide quotient, rounded down and saturated. -/
theorem toNat_ratePerMinute (d : W32) (period : Byte) :
    (ratePerMinute d period).toNat = min (d.toNat * 60 / period.toNat) 4294967295 := by
  rw [ratePerMinute, BitVec.toNat_ofNat, Nat.min_comm]
  exact Nat.mod_eq_of_lt (by omega)

/-- R126: the measured value of each mode. -/
theorem MonitorConfig.measure_eq (k : MonitorConfig) (c d : W32) :
    (k.mode = .level → k.measure c d = c) ∧ (k.mode = .delta → k.measure c d = d) ∧
      (k.mode = .rate → k.measure c d = ratePerMinute d k.period) := by
  refine ⟨fun h => ?_, fun h => ?_, fun h => ?_⟩ <;> rw [MonitorConfig.measure, h]

/-- Settles O17: the quotient as a number, at a period of 60, at one of 45 and beyond the largest value. -/
theorem rateIsComputedWideAndSaturated : Obligations.RateIsComputedWideAndSaturated := by
  unfold Obligations.RateIsComputedWideAndSaturated
  refine ⟨fun k c d h => ?_, fun d => BitVec.eq_of_toNat_eq ?_, by decide, fun d h => ?_, by decide⟩
  · obtain ⟨-, -, hrate⟩ := k.measure_eq c d
    rw [hrate h, toNat_ratePerMinute]
  · have h60 : (ratePerMinute d 60).toNat = min (d.toNat * 60 / 60) 4294967295 := toNat_ratePerMinute d 60
    rw [h60, Nat.mul_div_cancel _ (by decide)]
    exact Nat.min_eq_left (Nat.le_of_lt_succ d.isLt)
  · have h45 : (ratePerMinute d 45).toNat = min (d.toNat * 60 / 45) 4294967295 := toNat_ratePerMinute d 45
    have h3 : (ratePerMinute d 45).toNat = 3 := congrArg BitVec.toNat h
    omega

/-! ## The conditions (R129) -/

/-- R129: the conditions of a rising sense. -/
theorem MonitorConfig.holds_rise {k : MonitorConfig} (h : k.sense = .rise) (v : W32) :
    (k.setHolds v = true ↔ k.setLevel.toNat ≤ v.toNat) ∧ (k.clearHolds v = true ↔ v.toNat ≤ k.clearLevel.toNat) := by
  simp only [MonitorConfig.setHolds, MonitorConfig.clearHolds, h, decide_eq_true_eq, and_self]

/-- R129: the conditions of a falling sense. -/
theorem MonitorConfig.holds_fall {k : MonitorConfig} (h : k.sense = .fall) (v : W32) :
    (k.setHolds v = true ↔ v.toNat ≤ k.setLevel.toNat) ∧ (k.clearHolds v = true ↔ k.clearLevel.toNat ≤ v.toNat) := by
  simp only [MonitorConfig.setHolds, MonitorConfig.clearHolds, h, decide_eq_true_eq, and_self]

/-! ## The source values (R21, R124) -/

theorem State.sourceValue_station {s : State} {k : MonitorConfig} {x : StationCounter} (h : k.source = .station x) :
    s.sourceValue k = s.stationCounters[x.index] := by
  rw [State.sourceValue, h]
  rfl

/-- The association an octet below 32 names. -/
theorem ofNat_sourceAssoc {o : Byte} {a : AssocId} (h : o.toNat = a.val) : (Fin.ofNat 32 o.toNat : AssocId) = a :=
  Fin.ext (by rw [Fin.val_ofNat, h, Nat.mod_eq_of_lt a.isLt])

/-- R124: the value of an association item. -/
def State.itemValue (s : State) (a : AssocId) : AssocItem → W32
  | .counter x => s.assocCount a x
  | .quiet => (s.assoc a).quiet.zeroExtend 32
  | .wearPct => BitVec.ofNat 32 (s.assoc a).wearPct

theorem State.sourceValue_association {s : State} {k : MonitorConfig} {a : AssocId} {i : AssocItem}
    (ha : k.sourceAssoc.toNat = a.val) (h : k.source = .association i) : s.sourceValue k = s.itemValue a i := by
  rw [State.sourceValue, h, ← ofNat_sourceAssoc ha]
  cases i <;> rfl

/-- R21: no wear within the hard limit is more than 100 percent of it. -/
theorem wearPercent_le {w hard : Nat} (h : w ≤ hard) : w * 100 / hard ≤ 100 :=
  (Nat.div_le_div_right (Nat.mul_le_mul_right 100 h)).trans (Nat.div_le_of_le_mul (Nat.le_refl _))

end Sys2Proof.Machine
end

section
/-! MONITOR_CLEAR, SERVICE_SET and RESTART (R139, R160, R166 to R168). -/

namespace Sys2Proof.Machine

theorem State.setMonitor_self (s : State) (m : MonitorId) : s.setMonitor m (s.monitor m) = s := by
  simp [State.setMonitor, State.monitor]

/-- R139: MONITOR_CLEAR at a monitor that it names, and the monitor's state after it (R166). -/
theorem State.takeMonitorClear_named {s : State} {m : MonitorId} {o : Byte} (via : Carrier) (tag : Byte) (h : o.toNat = m.val) :
    s.takeMonitorClear (oneOctetMessage .monitorClear via tag o) =
      (s.setMonitor m (s.monitor m).commandClear).answeredWith
        [0xB0, tag, 0, 2, 0, o, (s.monitor m).commandClear.state.code] false := by
  have hm : (⟨o.toNat, by omega⟩ : MonitorId) = m := Fin.ext h
  simp only [State.takeMonitorClear, octetAt_oneOctetMessage]
  rw [dif_pos (by omega), hm, State.reply_eq, oneOctetMessage, octetAt_messageOctets_kind, octetAt_messageOctets_tag,
    answerOctets_short _ _ _ _ (by simp)]
  rfl

theorem State.takeMonitorClear_unnamed {s : State} {o : Byte} (via : Carrier) (tag : Byte) (h : 15 < o.toNat) :
    s.takeMonitorClear (oneOctetMessage .monitorClear via tag o) = s.answeredWith [0xB0, tag, 0, 0, 2] false := by
  simp only [State.takeMonitorClear, octetAt_oneOctetMessage]
  rw [dif_neg (by omega)]
  exact s.oneOctet_badIndex via tag o (by simp [MessageKind.code])

/-- R167: SERVICE_SET with a service state of 0 or 1. -/
theorem State.takeServiceSet_coded {s : State} {v : Byte} (via : Carrier) (tag : Byte) (h : v.toNat ≤ 1) :
    s.takeServiceSet (oneOctetMessage .serviceSet via tag v) =
      (s.modManagement (fun u => { u with serviceOn := v == 1 })).answeredWith [0xB8, tag, 0, 1, 0, v] false := by
  have hv : v = 0 ∨ v = 1 := by
    rw [← BitVec.toNat_inj, ← BitVec.toNat_inj]
    exact Nat.le_one_iff_eq_zero_or_eq_one.1 h
  simp only [State.takeServiceSet, octetAt_oneOctetMessage]
  rw [if_pos hv, State.reply_eq, oneOctetMessage, octetAt_messageOctets_kind, octetAt_messageOctets_tag,
    answerOctets_short _ _ _ _ (by simp)]
  rfl

theorem State.takeServiceSet_uncoded {s : State} {v : Byte} (via : Carrier) (tag : Byte) (h : 1 < v.toNat) :
    s.takeServiceSet (oneOctetMessage .serviceSet via tag v) = s.answeredWith [0xB8, tag, 0, 0, 3] false := by
  have hv : ¬(v = 0 ∨ v = 1) := by
    rintro (rfl | rfl)
    · exact absurd h (by decide)
    · exact absurd h (by decide)
  have hrejected := s.oneOctet_rejected (k := .serviceSet) (c := .badValue) via tag v [] (by simp [MessageKind.code]) (by simp)
  simp only [State.takeServiceSet, octetAt_oneOctetMessage]
  rw [if_neg hv]
  exact hrejected

/-- R168: RESTART, whose answer carries the restart mark. -/
theorem State.takeRestart_eq (s : State) (via : Carrier) (tag : Byte) :
    s.takeRestart (restartMessage via tag) =
      (s.modManagement (fun u => { u with restartTakenAt := some s.time.milliseconds })).answeredWith
        [0xBF, tag, 0, 0, 0] true := by
  rw [State.takeRestart, State.offerAnswer_taking, restartMessage, octetAt_messageOctets_kind, octetAt_messageOctets_tag,
    answerOctets_nil]
  rfl

/-- Settles O50: each message by its operand and the state of the monitor it names. -/
theorem clearServiceAndRestartAreTaken : Obligations.ClearServiceAndRestartAreTaken := by
  unfold Obligations.ClearServiceAndRestartAreTaken
  refine ⟨fun s via tag o h => ?clear, fun s via tag v h => ?serviceAndRestart⟩
  case clear =>
    have answered {t : State} {l : List Byte}
        (e : s.takeMonitorClear (oneOctetMessage .monitorClear via tag o) = t.answeredWith l false)
        (hk : t.engine.current = s.engine.current) (hi : t.management.inbox = s.management.inbox) :
        exec (.monitorClear via tag o) s = .next (t.answeredWith l false) :=
      exec_handled (k := .monitorClear) rfl rfl h (by simp) rfl e hk hi
    refine ⟨fun ho => answered (State.takeMonitorClear_unnamed via tag ho) rfl rfl, fun m ho => ⟨fun hs => ?_, fun hs => ?_⟩⟩
    · have hclear : (s.monitor m).commandClear =
          { s.monitor m with state := .clear, persistenceCount := 0, conditionGone := false } := if_pos hs
      have hnamed := State.takeMonitorClear_named (s := s) via tag ho
      rw [hclear] at hnamed
      exact answered hnamed rfl rfl
    · have hstays : (s.monitor m).commandClear = s.monitor m := if_neg hs
      have hnamed := State.takeMonitorClear_named (s := s) via tag ho
      rw [hstays, State.setMonitor_self] at hnamed
      exact answered hnamed rfl rfl
  case serviceAndRestart =>
    have answered {t : State} {l : List Byte}
        (e : s.takeServiceSet (oneOctetMessage .serviceSet via tag v) = t.answeredWith l false)
        (hk : t.engine.current = s.engine.current) (hi : t.management.inbox = s.management.inbox) :
        exec (.serviceSet via tag v) s = .next (t.answeredWith l false) :=
      exec_handled (k := .serviceSet) rfl rfl h (by simp) rfl e hk hi
    refine ⟨fun hv => answered (State.takeServiceSet_coded via tag hv) rfl rfl,
      fun hv => answered (State.takeServiceSet_uncoded via tag hv) rfl rfl, ?_⟩
    refine exec_answered rfl h.listening ?_ rfl rfl
    exact (State.takeMessage_spelled .restart tag [] via (by simp) h.restart rfl).trans (s.takeRestart_eq via tag)

end Sys2Proof.Machine
end

section
/-! The configuration of a MONITOR entry with an uncoded latch octet (R131, R179). -/

namespace Sys2Proof.Machine

/-- The configuration the model reads from `uncodedLatchEntry`: its latch octet 2 is taken as NONE. -/
def uncodedLatchConfig : MonitorConfig :=
  { enable := true, source := .station .shopBad, sourceAssoc := 0, mode := .level, sense := .rise, period := 1
    setLevel := 1, clearLevel := 0, persistence := 1, latch := .none, startupInhibit := 0, severity := 1, action := .note
    target := 0 }

theorem monitorOfOctets_uncodedLatch : monitorOfOctets uncodedLatchEntry = some uncodedLatchConfig := by decide

/-- Refutes O46: its first clause has the latch octet of an entry that is read be the code of the latch read from it; the
model reads the latch octet 2 as NONE, whose code is 0, where R131 and R179 have no record read. -/
theorem not_monitorWriteRestartsItsMonitors : ¬Obligations.MonitorWriteRestartsItsMonitors := by
  unfold Obligations.MonitorWriteRestartsItsMonitors
  rintro ⟨hcodes, -⟩
  obtain ⟨-, -, -, -, -, -, -, -, -, hlatch, -⟩ :=
    (hcodes uncodedLatchEntry uncodedLatchConfig).1 monitorOfOctets_uncodedLatch
  exact absurd hlatch (by decide)

end Sys2Proof.Machine
end

section
/-! A sample that asks nothing of another block (R124 to R127, R133, R134, R138). -/

namespace Sys2Proof.Machine

/-! ## Comparing samples by the monitor's state (R127) -/

section
variable {r : Monitor} {c v : W32} {now : Nat}

theorem Monitor.compare_arming (hs : r.state = .arming) : r.compare v = { r with lastMeasured := v }.armingSample v := by
  cases r
  cases hs
  rfl

theorem Monitor.compare_unfired (hs : r.state = .clear ∨ r.state = .pending) :
    r.compare v = { r with lastMeasured := v }.unfiredSample v := by
  cases r
  rcases hs with hs | hs <;> cases hs <;> rfl

theorem Monitor.compare_fired (hs : r.state = .fired) : r.compare v = { r with lastMeasured := v }.firedSample v := by
  cases r
  cases hs
  rfl

/-- R127: the first sample of a mode that needs a baseline. -/
theorem Monitor.sample_baseline (hb : r.baseline = false) (hm : r.config.mode ≠ .level) :
    r.sample c now =
      ({ r with previous := c, baseline := true, nextSample := some (now + r.config.period.toNat) }, .quiet) :=
  if_pos ⟨hb, hm⟩

/-- R127, R133: a comparing sample in ARMING. -/
theorem Monitor.sample_arming (h : r.baseline = true ∨ r.config.mode = .level)
    (hv : r.config.measure c (sampleDifference r.previous c) = v) (hs : r.state = .arming) :
    r.sample c now = (r.compared c v now).armingSample v := by
  rw [Monitor.sample_eq c now h, hv]
  exact Monitor.compare_arming hs

/-- R127, R134: a comparing sample in CLEAR or PENDING. -/
theorem Monitor.sample_unfired (h : r.baseline = true ∨ r.config.mode = .level)
    (hv : r.config.measure c (sampleDifference r.previous c) = v) (hs : r.state = .clear ∨ r.state = .pending) :
    r.sample c now = (r.compared c v now).unfiredSample v := by
  rw [Monitor.sample_eq c now h, hv]
  exact Monitor.compare_unfired hs

/-- R127, R138: a comparing sample in FIRED. -/
theorem Monitor.sample_fired (h : r.baseline = true ∨ r.config.mode = .level)
    (hv : r.config.measure c (sampleDifference r.previous c) = v) (hs : r.state = .fired) :
    r.sample c now = (r.compared c v now).firedSample v := by
  rw [Monitor.sample_eq c now h, hv]
  exact Monitor.compare_fired hs

end

/-! ## The moves that ask nothing (R133, R134, R138) -/

section
variable {r : Monitor} {v : W32}

/-- R133: a value beyond the set level arms the monitor. -/
theorem Monitor.armingSample_arms (h : r.config.setLevel.toNat < v.toNat) :
    r.armingSample v = ({ r with state := .clear, persistenceCount := 0 }, .quiet) := if_pos h

theorem Monitor.armingSample_stays (h : v.toNat ≤ r.config.setLevel.toNat) : r.armingSample v = (r, .quiet) :=
  if_neg (Nat.not_lt.2 h)

/-- R134: the set condition does not hold. -/
theorem Monitor.unfiredSample_unset (h : r.config.setHolds v = false) :
    r.unfiredSample v = ({ r with state := .clear, persistenceCount := 0 }, .quiet) :=
  if_neg (Bool.eq_false_iff.1 h)

/-- R134: the set condition holds, and the persistence is not complete. -/
theorem Monitor.unfiredSample_counts {count : Nat} (hs : r.state = .clear ∨ r.state = .pending)
    (hc : (if r.state = .pending then r.persistenceCount else 0) = count) (h : r.config.setHolds v = true)
    (hp : count + 1 < r.config.persistence.toNat) :
    r.unfiredSample v = ({ r with state := .pending, persistenceCount := count + 1 }, .quiet) := by
  have counts (r' : Monitor) (hp' : r'.persistenceCount + 1 < r'.config.persistence.toNat) :
      r'.setSample v = ({ r' with state := .pending, persistenceCount := r'.persistenceCount + 1 }, .quiet) :=
    if_neg (Nat.not_le.2 hp')
  subst hc
  rw [Monitor.unfiredSample, if_pos h]
  rcases hs with hs | hs
  · rw [if_neg (by simp [hs])] at hp ⊢
    simp only [hs]
    exact counts _ hp
  · rw [if_pos hs] at hp ⊢
    simp only [hs]
    exact counts _ hp

/-- R137: without a latch, the clear condition does not hold. -/
theorem Monitor.firedSample_unlatched (hl : r.config.latch = .none) (h : r.config.clearHolds v = false) :
    r.firedSample v = (r, .quiet) := by
  simp [Monitor.firedSample, hl, h]

/-- R138: a latched monitor keeps in its flag which of the two conditions held last. -/
theorem Monitor.firedSample_latched (hl : r.config.latch = .hold) :
    r.firedSample v =
      if r.config.clearHolds v then ({ r with conditionGone := true }, .quiet)
      else if r.config.setHolds v then ({ r with conditionGone := false }, .quiet)
      else (r, .quiet) := by
  rw [Monitor.firedSample, hl]

end

/-- R126: a sample at the end of a monitor's period that asks nothing of another block. -/
theorem exec_monitorSample_quiet {s : State} {m : MonitorId} {t : Nat} {r' : Monitor} (h : s.Busy)
    (hn : (s.monitor m).nextSample = some t) (hu : s.UnobstructedSecond t) (hs : (s.monitor m).state.samples = true)
    (hr' : (s.monitor m).sample (s.sourceValue (s.monitor m).config) (s.comesToSecond t).now = (r', .quiet)) :
    exec (.monitorSample m) s = .next { s.comesToSecond t with monitors := s.monitors.set m r' } := by
  obtain ⟨hassocs, hengine, -, hman, hmonitors, hcounters, -⟩ := s.comesToSecond_frame t
  have hmonitor : (s.comesToSecond t).monitor m = s.monitor m := by rw [State.monitor, hmonitors, State.monitor]
  have hdeadline : s.sampleDeadlineOf m = some t := (if_pos hs).trans hn
  have hsample : (s.comesToSecond t).takeSample m = { s.comesToSecond t with monitors := s.monitors.set m r' } := by
    rw [State.takeSample_reached (by rw [hmonitor, hs]) (by rw [hmonitor, hn]) hu.reached, hmonitor,
      State.sourceValue_congr _ hassocs hcounters, hr', State.setMonitor, hmonitors]
    rfl
  rw [exec_monitorSample, State.event_expires _ h.running hdeadline hu, hdeadline, State.reachSecond_eq_comesToSecond,
    hsample, State.settle_busy (by rw [hengine, h.busy]) (by rw [hman, h.inbox])]

/-- Settles O56: the conditions and the source values by their definitions, the samples by the monitor's state. -/
theorem sampleMovesTheMonitor : Obligations.SampleMovesTheMonitor := by
  unfold Obligations.SampleMovesTheMonitor
  refine ⟨fun k c d => ?measures, fun s k => ?sources, ?samples⟩
  case measures =>
    obtain ⟨hlevel, hdelta, hrate⟩ := k.measure_eq c d
    exact ⟨hlevel, hdelta, fun h => by rw [hrate h, toNat_ratePerMinute], fun h => k.holds_rise h c, fun h => k.holds_fall h c⟩
  case sources =>
    refine ⟨fun x h => State.sourceValue_station h, fun a ha => ⟨fun x h => State.sourceValue_association ha h, fun h => ?_,
      fun h => ⟨fun b hb hw => ?_, fun hb => ?_⟩⟩⟩
    · rw [State.sourceValue_association ha h]
      exact BitVec.toNat_setWidth_of_le (by decide)
    · have hpct : (s.assoc a).wearPct = (s.bank a b).wear.toNat * 100 / (s.assoc a).policy.hardLimit.toNat := by
        rw [Assoc.wearPct, hb]
        rfl
      have hle := wearPercent_le hw
      rw [State.sourceValue_association ha h, State.itemValue, hpct, BitVec.toNat_ofNat]
      exact Nat.mod_eq_of_lt (by omega)
    · rw [State.sourceValue_association ha h, State.itemValue, Assoc.wearPct, hb]
      rfl
  case samples =>
    intro s m t h hn hu u r c d v based compared count moves hstate
    have hsamples : r.state.samples = true := by
      rcases hstate with hs | hs | hs | hs <;> rw [hs] <;> rfl
    have moved {r' : Monitor} (hr' : r.sample c u.now = (r', .quiet)) : moves r' :=
      exec_monitorSample_quiet h hn hu hsamples hr'
    refine ⟨fun hb hm => moved (Monitor.sample_baseline hb hm), fun hcompares => ?compares⟩
    have arming (hs : r.state = .arming) : r.sample c u.now = compared.armingSample v := Monitor.sample_arming hcompares rfl hs
    have unfired (hs : r.state = .clear ∨ r.state = .pending) : r.sample c u.now = compared.unfiredSample v :=
      Monitor.sample_unfired hcompares rfl hs
    have fired (hs : r.state = .fired) : r.sample c u.now = compared.firedSample v := Monitor.sample_fired hcompares rfl hs
    refine ⟨fun hs hv => moved ((arming hs).trans (Monitor.armingSample_arms hv)),
      fun hs hv => moved ((arming hs).trans (Monitor.armingSample_stays hv)),
      fun hs hset => moved ((unfired hs).trans (Monitor.unfiredSample_unset hset)),
      fun hs hset hp => moved ((unfired hs).trans (Monitor.unfiredSample_counts (r := compared) hs rfl hset hp)),
      fun hs hl hclear => moved ((fired hs).trans (Monitor.firedSample_unlatched (r := compared) hl hclear)),
      fun hs hl hclear => ?gone, fun hs hl hclear hset => ?back, fun hs hl hclear hset => ?between⟩
    case gone =>
      exact moved ((fired hs).trans ((Monitor.firedSample_latched (r := compared) hl).trans (if_pos hclear)))
    case back =>
      exact moved ((fired hs).trans ((Monitor.firedSample_latched (r := compared) hl).trans
        ((if_neg (Bool.eq_false_iff.1 hclear)).trans (if_pos hset))))
    case between =>
      exact moved ((fired hs).trans ((Monitor.firedSample_latched (r := compared) hl).trans
        ((if_neg (Bool.eq_false_iff.1 hclear)).trans (if_neg (Bool.eq_false_iff.1 hset)))))

end Sys2Proof.Machine
end

section
/-! The numbers of report records (R143). -/

namespace Sys2Proof.Machine

/-! ## The number after a number -/

theorem numberAfter_ne_zero (n : W16) : numberAfter n ≠ 0 := by
  unfold numberAfter
  split
  · decide
  · bv_omega

/-- R143: counted from 1, the numbers follow each other in a ring of 65535. -/
theorem toNat_iterate_numberAfter {n : W16} (h : n ≠ 0) (k : Nat) :
    (numberAfter^[k] n).toNat = (n.toNat - 1 + k) % 65535 + 1 := by
  induction k generalizing n with
  | zero =>
    rw [Function.iterate_zero_apply]
    bv_omega
  | succ k ih =>
    rw [Function.iterate_succ_apply, ih (numberAfter_ne_zero n), numberAfter]
    split
    · subst n
      show (1 - 1 + k) % 65535 + 1 = (65535 - 1 + (k + 1)) % 65535 + 1
      omega
    · have hn : (n + 1).toNat = n.toNat + 1 := by bv_omega
      have hpos : 0 < n.toNat := by bv_omega
      rw [hn]
      omega

/-- R143: no number follows itself before the ring is closed. -/
theorem iterate_numberAfter_ne {n : W16} {k : Nat} (h0 : 0 < k) (hk : k < 65535) : numberAfter^[k] n ≠ n := by
  intro e
  have hn : n ≠ 0 := by
    obtain ⟨j, rfl⟩ := Nat.exists_eq_add_one.2 h0
    rw [← e, Function.iterate_succ_apply']
    exact numberAfter_ne_zero _
  have hring := toNat_iterate_numberAfter hn k
  rw [e] at hring
  bv_omega

theorem iterate_numberAfter_injOn {n : W16} {i j : Nat} (hi : i < 65535) (hj : j < 65535)
    (e : numberAfter^[i] n = numberAfter^[j] n) : i = j := by
  wlog hij : i ≤ j generalizing i j
  · exact (this hj hi e.symm (Nat.le_of_not_le hij)).symm
  obtain ⟨k, rfl⟩ := Nat.exists_eq_add_of_le hij
  rw [Nat.add_comm, Function.iterate_add_apply] at e
  by_contra hne
  exact iterate_numberAfter_ne (by omega) (by omega) e.symm

/-! ## The first free number -/

/-- R143: the search passes over numbers that records hold, and ends at a number that none holds or with its fuel. -/
theorem freeNumber_search (l : List ReportRecord) (n : W16) (fuel : Nat) :
    ∃ k ≤ fuel, freeNumber l n fuel = numberAfter^[k] n ∧ (∀ j < k, ∃ x ∈ l, x.number = numberAfter^[j] n) ∧
      (k < fuel → ∀ x ∈ l, x.number ≠ numberAfter^[k] n) := by
  induction fuel generalizing n with
  | zero => exact ⟨0, le_rfl, rfl, nofun, nofun⟩
  | succ fuel ih =>
    rw [freeNumber]
    split
    · rename_i held
      obtain ⟨x, hx, hn⟩ := List.any_eq_true.1 held
      obtain ⟨k, hk, e, hpassed, hfree⟩ := ih (numberAfter n)
      refine ⟨k + 1, Nat.succ_le_succ hk, e, fun j hj => ?_, fun h => hfree (Nat.lt_of_succ_lt_succ h)⟩
      cases j with
      | zero => exact ⟨x, hx, beq_iff_eq.1 hn⟩
      | succ j => exact hpassed j (Nat.lt_of_succ_lt_succ hj)
    · rename_i unheld
      exact ⟨0, Nat.zero_le _, rfl, nofun, fun _ x hx e => unheld (List.any_eq_true.2 ⟨x, hx, beq_iff_eq.2 e⟩)⟩

/-- Records that hold a run of numbers are at least as many as the numbers of the run. -/
theorem length_ge_of_run {l : List ReportRecord} {n : W16} {k : Nat} (hk : k ≤ 65535)
    (held : ∀ j < k, ∃ x ∈ l, x.number = numberAfter^[j] n) : k ≤ l.length := by
  have hnodup : ((List.range k).map (fun j => numberAfter^[j] n)).Nodup :=
    List.nodup_range.map_on fun i hi j hj e => iterate_numberAfter_injOn
      ((List.mem_range.1 hi).trans_le hk) ((List.mem_range.1 hj).trans_le hk) e
  have hsub : (List.range k).map (fun j => numberAfter^[j] n) ⊆ l.map ReportRecord.number := by
    intro m hm
    obtain ⟨j, hj, rfl⟩ := List.mem_map.1 hm
    obtain ⟨x, hx, e⟩ := held j (List.mem_range.1 hj)
    exact List.mem_map.2 ⟨x, hx, e⟩
  simpa using (List.subperm_of_subset hnodup hsub).length_le

/-- R143: among 25 numbers one is free of 24 records. -/
theorem freeNumber_spec {l : List ReportRecord} (n : W16) (hl : l.length ≤ 24) :
    ∃ k ≤ l.length, freeNumber l n 25 = numberAfter^[k] n ∧ (∀ j < k, ∃ x ∈ l, x.number = numberAfter^[j] n) ∧
      ∀ x ∈ l, x.number ≠ freeNumber l n 25 := by
  obtain ⟨k, hk, e, hpassed, hfree⟩ := freeNumber_search l n 25
  have hrun : k ≤ l.length := length_ge_of_run (by omega) hpassed
  exact ⟨k, hrun, e, hpassed, e ▸ hfree (by omega)⟩

/-- R143: 0 is not searched for. -/
theorem freeNumber_ne_zero (l : List ReportRecord) {n : W16} (hn : n ≠ 0) (fuel : Nat) : freeNumber l n fuel ≠ 0 := by
  induction fuel generalizing n with
  | zero => exact hn
  | succ fuel ih =>
    rw [freeNumber]
    split
    · exact ih (numberAfter_ne_zero n)
    · exact hn

/-- Settles O18: the new record is `newRecord` with the number that the search finds. -/
theorem newReportNumbersAreFree : Obligations.NewReportNumbersAreFree := by
  unfold Obligations.NewReportNumbersAreFree
  intro q p now hq following nth
  have hnth : ∀ k, nth k = numberAfter^[k] q.nextNumber := fun k => by
    simp only [nth, List.foldl_const, List.length_range]
    rfl
  obtain ⟨k, hk, e, hpassed, hfree⟩ := freeNumber_spec q.nextNumber hq
  refine ⟨newRecord p (freeNumber q.records q.nextNumber 25) now, rfl, ⟨k, hk, e.trans (hnth k).symm, fun j hj => ?_⟩,
    hfree, fun h0 => freeNumber_ne_zero _ h0 25, rfl, rfl, rfl, rfl, rfl, rfl, rfl, rfl, rfl, rfl⟩
  rw [hnth]
  exact hpassed j hj

end Sys2Proof.Machine
end

section
/-! The moves of the Fault Report Queue: each keeps law 8 (R145) and the numbering of the records (R143). -/

namespace Sys2Proof.Machine

/-! ## Records that law 8 keeps apart (R143, R145) -/

theorem ReportRecord.isUnsentOf_iff {x : ReportRecord} {k : ReportKind} {src : ReportSource} :
    x.isUnsentOf k src = true ↔ x.state = .unsent ∧ x.kind = k ∧ x.source = src := by
  simp [ReportRecord.isUnsentOf, and_assoc]

theorem ReportRecord.Apart.symm {x y : ReportRecord} (h : x.Apart y) : y.Apart x :=
  ⟨h.1.symm, fun ⟨hy, hx, hk, hs⟩ => h.2 ⟨hx, hy, hk.symm, hs.symm⟩⟩

/-- Records that are apart stay so in any order. -/
theorem pairwise_apart_perm {l l' : List ReportRecord} (h : l.Perm l') :
    l.Pairwise ReportRecord.Apart ↔ l'.Pairwise ReportRecord.Apart := h.pairwise_iff ReportRecord.Apart.symm

/-- R145: of a kind and source one record at most is UNSENT. -/
theorem unsentOf_unique {l : List ReportRecord} (h : l.Pairwise ReportRecord.Apart) {x y : ReportRecord} {k : ReportKind}
    {src : ReportSource} (hx : x ∈ l) (hy : y ∈ l) (hxu : x.isUnsentOf k src = true) (hyu : y.isUnsentOf k src = true) :
    x = y := by
  by_contra hne
  obtain ⟨hxs, hxk, hxsrc⟩ := ReportRecord.isUnsentOf_iff.1 hxu
  obtain ⟨hys, hyk, hysrc⟩ := ReportRecord.isUnsentOf_iff.1 hyu
  have : Std.Symm ReportRecord.Apart := ⟨fun _ _ => ReportRecord.Apart.symm⟩
  exact (h.forall hx hy hne).2 ⟨hxs, hys, hxk.trans hyk.symm, hxsrc.trans hysrc.symm⟩

theorem inFlightCount_cons (x : ReportRecord) (l : List ReportRecord) :
    inFlightCount (x :: l) = inFlightCount l + if x.state = .inFlight then 1 else 0 := by
  by_cases h : x.state = .inFlight <;> simp [inFlightCount, h]

theorem inFlightCount_perm {l l' : List ReportRecord} (h : l.Perm l') : inFlightCount l = inFlightCount l' :=
  (h.filter _).length_eq

/-! ## What keeps law 8 -/

/-- Records that leave, and a change of their order, keep law 8. -/
theorem ReportQueue.Lawful.of_subperm {q q' : ReportQueue} (h : q.Lawful) (hl : q'.records.Subperm q.records) :
    q'.Lawful := by
  obtain ⟨l, hp, hs⟩ := hl
  exact {
    capacity := hp.length_eq ▸ hs.length_le.trans h.capacity
    inFlight := inFlightCount_perm hp ▸ (hs.filter _).length_le.trans h.inFlight
    apart := (pairwise_apart_perm hp).1 (h.apart.sublist hs) }

/-- A record that joins apart from the others, UNSENT, keeps law 8. -/
theorem ReportQueue.Lawful.of_joins {q q' : ReportQueue} {x : ReportRecord} (h : q.Lawful)
    (hl : q'.records.Perm (x :: q.records)) (room : q.records.length < 24) (unsent : x.state = .unsent)
    (apart : ∀ y ∈ q.records, x.Apart y) : q'.Lawful where
  capacity := hl.length_eq ▸ room
  inFlight := by
    rw [inFlightCount_perm hl, inFlightCount_cons, unsent]
    exact h.inFlight
  apart := (pairwise_apart_perm hl).2 (h.apart.cons apart)

/-- A record that changes keeps law 8 while it stays apart from the others and comes to be IN_FLIGHT only where fewer than
4 are. -/
theorem ReportQueue.Lawful.of_changes {q q' : ReportQueue} {x x' : ReportRecord} {l : List ReportRecord} (h : q.Lawful)
    (hl : q.records.Perm (x :: l)) (hl' : q'.records.Perm (x' :: l)) (apart : ∀ y ∈ l, x.Apart y → x'.Apart y)
    (flies : x'.state = .inFlight → x.state = .inFlight ∨ inFlightCount q.records < 4) : q'.Lawful := by
  obtain ⟨hx, hrest⟩ := List.pairwise_cons.1 ((pairwise_apart_perm hl).1 h.apart)
  have hcount := h.inFlight
  rw [inFlightCount_perm hl, inFlightCount_cons] at hcount flies
  exact {
    capacity := (hl'.length_eq.trans hl.length_eq.symm) ▸ h.capacity
    inFlight := by
      rw [inFlightCount_perm hl', inFlightCount_cons]
      grind
    apart := (pairwise_apart_perm hl').2 (hrest.cons fun y hy => apart y hy (hx y hy)) }

/-- R143, R146: a new record at a queue that holds no UNSENT record of its kind and source. -/
theorem ReportQueue.Lawful.create {q : ReportQueue} (h : q.Lawful) (p : Report) (now : W32) (room : q.records.length < 24)
    (new : ∀ x ∈ q.records, ¬x.isUnsentOf p.kind p.source = true) : (q.create p now).Lawful := by
  obtain ⟨-, -, -, -, hfree⟩ := freeNumber_spec q.nextNumber h.capacity
  refine h.of_joins (x := newRecord p (freeNumber q.records q.nextNumber 25) now)
    (List.perm_append_singleton _ _) room rfl fun y hy => ⟨(hfree y hy).symm, fun ⟨_, hu, hk, hs⟩ => ?_⟩
  exact new y hy (ReportRecord.isUnsentOf_iff.2 ⟨hu, hk.symm, hs.symm⟩)

/-! ## The return of a record (R151) -/

/-- R151: with no UNSENT record of its kind and source a record returns in its place. -/
theorem mergeReturning_alone {l l₁ l₂ : List ReportRecord} {r : ReportRecord} (hl : l = l₁ ++ r :: l₂)
    (apart : l.Pairwise ReportRecord.Apart) (alone : ∀ y ∈ l, ¬y.isUnsentOf r.kind r.source = true) :
    mergeReturning l r = l₁ ++ r.returned :: l₂ := by
  have hfind : l.find? (fun x => x.isUnsentOf r.kind r.source) = none := List.find?_eq_none.2 alone
  simp only [mergeReturning, hfind]
  subst hl
  refine modifyFirst_append _ (beq_self_eq_true _) fun y hy => ?_
  have hy : y.Apart r := (List.pairwise_append.1 apart).2.2 y hy r List.mem_cons_self
  simpa using hy.1

/-- R151: a record that returns merges with the UNSENT record of its kind and source, at the older of the two places. -/
theorem mergeReturning_pair {l a b c : List ReportRecord} {x y r u : ReportRecord} (hl : l = a ++ x :: (b ++ y :: c))
    (apart : l.Pairwise ReportRecord.Apart) (hu : u.isUnsentOf r.kind r.source = true)
    (places : (x = r ∧ y = u) ∨ (x = u ∧ y = r)) : mergeReturning l r = a ++ u.mergeFrom r.returned :: (b ++ c) := by
  have hmem : u ∈ l := by rcases places with ⟨rfl, rfl⟩ | ⟨rfl, rfl⟩ <;> simp [hl]
  have hfind : l.find? (fun z => z.isUnsentOf r.kind r.source) = some u := by
    obtain ⟨v, hv⟩ : ∃ v, l.find? (fun z => z.isUnsentOf r.kind r.source) = some v :=
      Option.isSome_iff_exists.1 (List.find?_isSome.2 ⟨u, hmem, hu⟩)
    rw [hv, unsentOf_unique apart (List.mem_of_find?_eq_some hv) hmem 
      (List.find?_some (p := fun z : ReportRecord => z.isUnsentOf r.kind r.source) hv) hu]
  subst hl
  obtain ⟨-, hright, hleft⟩ := List.pairwise_append.1 apart
  obtain ⟨hx, hright⟩ := List.pairwise_cons.1 hright
  have hxy : x.number ≠ y.number := (hx y (by simp)).1
  have hbefore : ∀ z ∈ a, z.number ≠ x.number ∧ z.number ≠ y.number := fun z hz =>
    ⟨(hleft z hz x (by simp)).1, (hleft z hz y (by simp)).1⟩
  have hbetween : ∀ z ∈ b, z.number ≠ y.number := fun z hz => ((List.pairwise_append.1 hright).2.2 z hz y (by simp)).1
  have holder : (a ++ x :: (b ++ y :: c)).find? (fun z => z.number == r.number || z.number == u.number) = some x := by
    rw [List.find?_eq_some_iff_append]
    refine ⟨by rcases places with ⟨rfl, -⟩ | ⟨rfl, -⟩ <;> simp, a, _, rfl, fun z hz => ?_⟩
    have hother := hbefore z hz
    rcases places with ⟨rfl, rfl⟩ | ⟨rfl, rfl⟩ <;> simp [hother]
  have hyounger : (if some x.number = some r.number then u.number else r.number) = y.number := by
    rcases places with ⟨rfl, rfl⟩ | ⟨rfl, rfl⟩
    · exact if_pos rfl
    · exact if_neg (by simpa using hxy)
  have herase : (a ++ x :: (b ++ y :: c)).eraseP (fun z => z.number == y.number) = a ++ x :: (b ++ c) := by
    rw [List.eraseP_append_right _ (by simpa using fun z hz => (hbefore z hz).2),
      List.eraseP_cons_of_neg (by simpa using hxy), List.eraseP_append_right _ (by simpa using hbetween), List.eraseP_cons_of_pos (by simp)]
  simp only [mergeReturning, hfind, holder, Option.map_some, hyounger, herase]
  refine modifyFirst_append _ (by rcases places with ⟨rfl, -⟩ | ⟨rfl, -⟩ <;> simp) fun z hz => ?_
  have hother := hbefore z hz
  rcases places with ⟨rfl, rfl⟩ | ⟨rfl, rfl⟩ <;> simp [hother]

theorem perm_two_places {α : Type} (a b c : List α) (x y : α) :
    (a ++ x :: (b ++ y :: c)).Perm (x :: y :: (a ++ (b ++ c))) := by
  have h : (a ++ (b ++ y :: c)).Perm (y :: (a ++ (b ++ c))) := by
    simpa only [List.append_assoc] using List.perm_middle (l₁ := a ++ b)
  exact List.perm_middle.trans (h.cons x)

/-- R151: the record that returns alone, or merged; the other records stay. -/
theorem mergeReturning_cases {l : List ReportRecord} {r : ReportRecord} (apart : l.Pairwise ReportRecord.Apart)
    (hr : r ∈ l) (flying : r.state = .inFlight) :
    (∃ rest, l.Perm (r :: rest) ∧ (mergeReturning l r).Perm (r.returned :: rest) ∧
      ∀ y ∈ l, ¬y.isUnsentOf r.kind r.source = true) ∨
    ∃ u rest, l.Perm (r :: u :: rest) ∧ (mergeReturning l r).Perm (u.mergeFrom r.returned :: rest) := by
  obtain ⟨l₁, l₂, hl⟩ := List.append_of_mem hr
  by_cases alone : ∀ y ∈ l, ¬y.isUnsentOf r.kind r.source = true
  · rw [mergeReturning_alone hl apart alone]
    exact .inl ⟨l₁ ++ l₂, hl ▸ List.perm_middle, List.perm_middle, alone⟩
  · push Not at alone
    obtain ⟨u, hmem, hu⟩ := alone
    have hne : u ≠ r := by
      rintro rfl
      rw [(ReportRecord.isUnsentOf_iff.1 hu).1] at flying
      cases flying
    rw [hl, List.mem_append, List.mem_cons, or_iff_right hne] at hmem
    rcases hmem with hmem | hmem <;> obtain ⟨m₁, m₂, rfl⟩ := List.append_of_mem hmem
    · have hl : l = m₁ ++ u :: (m₂ ++ r :: l₂) := by simp [hl]
      rw [mergeReturning_pair hl apart hu (.inr ⟨rfl, rfl⟩)]
      exact .inr ⟨u, m₁ ++ (m₂ ++ l₂), hl ▸ (perm_two_places _ _ _ _ _).trans (.swap _ _ _), List.perm_middle⟩
    · rw [mergeReturning_pair hl apart hu (.inl ⟨rfl, rfl⟩)]
      exact .inr ⟨u, l₁ ++ (m₁ ++ m₂), hl ▸ perm_two_places _ _ _ _ _, List.perm_middle⟩

/-! ## The moves (R141 to R152) -/

/-- One change that an event makes to the Fault Report Queue. -/
inductive ReportQueue.Move (q : ReportQueue) : ReportQueue → Prop where
  /-- R145, R147, R149: the dropped count and the timers bind no law. -/
  | note (d : Byte) (p r : Option Nat) : Move q { q with dropped := d, pacingDeadline := p, retryDeadline := r }
  /-- R148. -/
  | offered {l₁ l₂ : List ReportRecord} {x : ReportRecord} (t : Option Nat) (split : q.records = l₁ ++ x :: l₂)
    (unsent : x.state = .unsent) (few : inFlightCount q.records < 4) :
    Move q { q with records := l₁ ++ { x with state := .inFlight, ackDeadline := t } :: l₂ }
  /-- R144. -/
  | folded {l₁ l₂ : List ReportRecord} {x : ReportRecord} (p : Report) (now : W32) (split : q.records = l₁ ++ x :: l₂) :
    Move q { q with records := l₁ ++ x.fold p now :: l₂ }
  /-- R143, R146. -/
  | created (p : Report) (now : W32) (new : ∀ x ∈ q.records, ¬x.isUnsentOf p.kind p.source = true)
    (room : q.records.length < 24) : Move q (q.create p now)
  /-- R145: a new record in the place of an UNSENT one. -/
  | evicted (p : Report) (now : W32) (new : ∀ x ∈ q.records, ¬x.isUnsentOf p.kind p.source = true)
    (low : lowSeverity q.records < 256) : Move q (q.evict.create p now)
  /-- R151. -/
  | returned {r : ReportRecord} (held : r ∈ q.records) (flying : r.state = .inFlight) :
    Move q { q with records := mergeReturning q.records r }
  /-- R152. -/
  | removed {l : List ReportRecord} (left : l.Sublist q.records) : Move q { q with records := l }
  /-- R156, R173. -/
  | reset : Move q defaultReports

/-- Law 8 and the distinct numbers speak of the records alone. -/
theorem ReportQueue.Lawful.of_records {q q' : ReportQueue} (h : q.Lawful) (e : q'.records = q.records) : q'.Lawful :=
  h.of_subperm (e ▸ List.Subperm.refl _)

theorem ReportQueue.evict_sublist (q : ReportQueue) : q.evict.records.Sublist q.records := List.eraseP_sublist

/-- Each move keeps law 8 and the distinct numbers (R143, R145). -/
theorem ReportQueue.Move.lawful {q q' : ReportQueue} (m : q.Move q') (h : q.Lawful) : q'.Lawful := by
  cases m with
  | note d p r => exact h.of_records rfl
  | offered t split unsent few =>
    refine h.of_changes ((List.Perm.of_eq split).trans List.perm_middle) List.perm_middle
      (fun y _ hxy => ⟨hxy.1, ?_⟩) fun _ => .inr few
    exact fun ⟨hflies, _⟩ => nomatch hflies
  | folded p now split =>
    exact h.of_changes ((List.Perm.of_eq split).trans List.perm_middle) List.perm_middle (fun y _ hxy => hxy) .inl
  | created p now new room => exact h.create p now room new
  | evicted p now new low =>
    refine (h.of_subperm q.evict_sublist.subperm).create p now ?_ fun x hx => new x (q.evict_sublist.subset hx)
    have hfull := h.capacity
    obtain ⟨x, hx, -⟩ := lowSeverity_attained _ low
    have hpos := List.length_pos_of_mem hx
    rw [ReportQueue.length_evict low]
    omega
  | @returned r held flying =>
    rcases mergeReturning_cases h.apart held flying with ⟨rest, hl, hl', alone⟩ | ⟨u, rest, hl, hl'⟩
    · refine h.of_changes hl hl' (fun y hy hry => ⟨hry.1, fun ⟨_, hu, hk, hs⟩ => ?_⟩) fun _ => .inl flying
      exact alone y (hl.mem_iff.2 (List.mem_cons_of_mem _ hy)) (ReportRecord.isUnsentOf_iff.2 ⟨hu, hk.symm, hs.symm⟩)
    · have hrest : ({ q with records := u :: rest } : ReportQueue).Lawful :=
        h.of_subperm ((List.sublist_cons_self r _).subperm.trans hl.symm.subperm)
      exact hrest.of_changes (.refl _) hl' (fun y _ huy => huy) .inl
  | removed left => exact h.of_subperm left.subperm
  | reset => exact defaultReports_lawful

theorem mem_modifyFirst {p : ReportRecord → Bool} {f : ReportRecord → ReportRecord} {l : List ReportRecord}
    {x : ReportRecord} (h : x ∈ modifyFirst p f l) : x ∈ l ∨ ∃ y ∈ l, x = f y := by
  induction l with
  | nil => exact .inl h
  | cons r l ih =>
    rw [modifyFirst] at h
    split at h
    · exact (List.mem_cons.1 h).elim (fun e => .inr ⟨r, List.mem_cons_self, e⟩) fun h => .inl (List.mem_cons_of_mem _ h)
    · rcases List.mem_cons.1 h with e | h
      · exact .inl (e ▸ List.mem_cons_self)
      · exact (ih h).imp (List.mem_cons_of_mem _) fun ⟨y, hy, e⟩ => ⟨y, List.mem_cons_of_mem _ hy, e⟩

/-- R151: a return brings no number that no record held. -/
theorem number_mergeReturning {l : List ReportRecord} {r x : ReportRecord} (h : x ∈ mergeReturning l r) :
    ∃ y ∈ l, x.number = y.number := by
  unfold mergeReturning at h
  split at h
  · rcases mem_modifyFirst h with h | ⟨y, hy, rfl⟩
    · exact ⟨x, h, rfl⟩
    · exact ⟨y, hy, rfl⟩
  · rename_i u hu
    extract_lets merged older younger at h
    rcases mem_modifyFirst h with h | ⟨y, hy, rfl⟩
    · exact ⟨x, List.mem_of_mem_eraseP h, rfl⟩
    · exact ⟨u, List.mem_of_find?_eq_some hu, rfl⟩

theorem ReportQueue.Numbered.create {q : ReportQueue} (h : q.Numbered) (p : Report) (now : W32) :
    (q.create p now).Numbered where
  next := numberAfter_ne_zero _
  records x hx := by
    rcases List.mem_append.1 hx with hx | hx
    · exact h.records x hx
    · rw [List.mem_singleton.1 hx]
      exact freeNumber_ne_zero _ h.next 25

/-- Each move keeps 0 out of the numbers (R143). -/
theorem ReportQueue.Move.numbered {q q' : ReportQueue} (m : q.Move q') (h : q.Numbered) : q'.Numbered := by
  have changed {l₁ l₂ : List ReportRecord} {x x' : ReportRecord} (split : q.records = l₁ ++ x :: l₂)
      (number : x'.number = x.number) : ∀ y ∈ l₁ ++ x' :: l₂, y.number ≠ 0 := by
    have hrecords := h.records
    rw [split] at hrecords
    simp only [List.forall_mem_append, List.forall_mem_cons, number] at hrecords ⊢
    exact hrecords
  cases m with
  | note d p r => exact ⟨h.next, h.records⟩
  | offered t split unsent few => exact ⟨h.next, changed split rfl⟩
  | folded p now split => exact ⟨h.next, changed split rfl⟩
  | created p now new room => exact h.create p now
  | evicted p now new low =>
    exact .create (q := q.evict) ⟨h.next, fun x hx => h.records x (q.evict_sublist.subset hx)⟩ p now
  | returned held flying =>
    refine ⟨h.next, fun x hx => ?_⟩
    obtain ⟨y, hy, e⟩ := number_mergeReturning hx
    exact e ▸ h.records y hy
  | removed left => exact ⟨h.next, fun x hx => h.records x (left.subset hx)⟩
  | reset => exact defaultReports_numbered

end Sys2Proof.Machine
end

section
/-! A report handed to the Fault Report Queue (R144 to R147). -/

namespace Sys2Proof.Machine

/-! ## The lowest severity (R145) -/

theorem foldl_lowest_le (l : List ReportRecord) (m : Nat) :
    let low := l.foldl (fun m r => if r.state = .unsent then min m r.severity.toNat else m) m
    low ≤ m ∧ ∀ y ∈ l, y.state = .unsent → low ≤ y.severity.toNat := by
  induction l generalizing m with
  | nil => exact ⟨le_rfl, nofun⟩
  | cons x l ih =>
    obtain ⟨hm, hl⟩ := ih (if x.state = .unsent then min m x.severity.toNat else m)
    rw [List.foldl_cons]
    by_cases hx : x.state = .unsent
    · rw [if_pos hx] at hm hl ⊢
      exact ⟨hm.trans (min_le_left _ _), List.forall_mem_cons.2 ⟨fun _ => hm.trans (min_le_right _ _), hl⟩⟩
    · rw [if_neg hx] at hm hl ⊢
      exact ⟨hm, List.forall_mem_cons.2 ⟨fun h => absurd h hx, hl⟩⟩

theorem lowSeverity_le {l : List ReportRecord} {y : ReportRecord} (hy : y ∈ l) (hu : y.state = .unsent) :
    lowSeverity l ≤ y.severity.toNat := (foldl_lowest_le l 256).2 y hy hu

theorem lowSeverity_eq {l : List ReportRecord} {x : ReportRecord} (hx : x ∈ l) (hu : x.state = .unsent)
    (hmin : ∀ y ∈ l, y.state = .unsent → x.severity.toNat ≤ y.severity.toNat) : lowSeverity l = x.severity.toNat := by
  have hle := lowSeverity_le hx hu
  obtain ⟨y, hy, hyu, hlow⟩ := lowSeverity_attained l (hle.trans_lt x.severity.isLt)
  exact hle.antisymm (hlow ▸ hmin y hy hyu)

/-- R145: the oldest UNSENT record of the lowest severity leaves. -/
theorem ReportQueue.evict_eq {q : ReportQueue} {l₁ l₂ : List ReportRecord} {x : ReportRecord}
    (hl : q.records = l₁ ++ x :: l₂) (hu : x.state = .unsent)
    (hmin : ∀ y ∈ q.records, y.state = .unsent → x.severity.toNat ≤ y.severity.toNat)
    (hold : ∀ y ∈ l₁, y.state = .unsent → x.severity.toNat < y.severity.toNat) :
    q.evict = { q with records := l₁ ++ l₂ } := by
  have hlow : lowSeverity q.records = x.severity.toNat := lowSeverity_eq (by simp [hl]) hu hmin
  have hearlier : ∀ y ∈ l₁, ¬(y.state == .unsent && y.severity.toNat == x.severity.toNat) = true := by
    intro y hy h
    obtain ⟨hyu, he⟩ : y.state = .unsent ∧ y.severity.toNat = x.severity.toNat := by simpa using h
    exact (hold y hy hyu).ne' he
  rw [ReportQueue.evict, hlow, hl, List.eraseP_append_right _ hearlier, List.eraseP_cons_of_pos (by simp [hu])]

/-! ## The four outcomes -/

/-- R144: a report is folded into the first UNSENT record of its kind and source. -/
theorem State.handReport_folded {s : State} {p : Report} {l₁ l₂ : List ReportRecord} {x : ReportRecord}
    (hl : s.reports.records = l₁ ++ x :: l₂) (hx : x.isUnsentOf p.kind p.source = true)
    (hold : ∀ y ∈ l₁, (!y.isUnsentOf p.kind p.source) = true) :
    s.handReport p =
      (s.modReports (fun q => { q with records := l₁ ++ x.fold p s.time.seconds :: l₂ })).sendAttempt := by
  have hany : s.reports.records.any (fun r => r.isUnsentOf p.kind p.source) = true :=
    List.any_eq_true.2 ⟨x, by simp [hl], hx⟩
  simp only [State.handReport, hany, if_true, State.modReports]
  rw [hl, modifyFirst_append (p := fun r : ReportRecord => r.isUnsentOf p.kind p.source) _ hx hold]

section

variable {s : State} {p : Report} (new : ∀ x ∈ s.reports.records, ¬x.isUnsentOf p.kind p.source = true)
include new

theorem State.handReport_created (room : s.reports.records.length < 24) :
    s.handReport p = (s.modReports (fun q => q.create p s.time.seconds)).sendAttempt := by
  rw [State.handReport]
  exact (if_neg (by simpa using new)).trans (if_pos room)

/-- R145: at a full queue a record of a lower severity makes place. -/
theorem State.handReport_evicted (full : 24 ≤ s.reports.records.length)
    (low : lowSeverity s.reports.records < p.severity.toNat) :
    s.handReport p = (s.countReportDrop.modReports (fun q => q.evict.create p s.time.seconds)).sendAttempt := by
  rw [State.handReport]
  exact (if_neg (by simpa using new)).trans ((if_neg (Nat.not_lt.2 full)).trans (if_pos low))

theorem State.handReport_dropped (full : 24 ≤ s.reports.records.length)
    (high : ¬lowSeverity s.reports.records < p.severity.toNat) : s.handReport p = s.countReportDrop.sendAttempt := by
  rw [State.handReport]
  exact (if_neg (by simpa using new)).trans ((if_neg (Nat.not_lt.2 full)).trans (if_neg high))

end

/-- The first record that satisfies a test, among the others. -/
theorem first_split {test : ReportRecord → Bool} {l : List ReportRecord} (h : ∃ x ∈ l, test x = true) :
    ∃ l₁ x l₂, l = l₁ ++ x :: l₂ ∧ test x = true ∧ ∀ y ∈ l₁, (!test y) = true := by
  obtain ⟨x, hx⟩ := Option.isSome_iff_exists.1 (List.find?_isSome.2 h)
  obtain ⟨htest, l₁, l₂, hl, hold⟩ := List.find?_eq_some_iff_append.1 hx
  exact ⟨l₁, x, l₂, hl, htest, hold⟩

theorem ReportRecord.fold_eq (x : ReportRecord) (p : Report) (now : W32) : x.fold p now =
    { x with
      occurrences := if x.occurrences = 65535 then x.occurrences else x.occurrences + 1
      lastTime := now
      value := p.value.or x.value
      severity := if x.severity.toNat < p.severity.toNat then p.severity else x.severity } := by
  unfold ReportRecord.fold
  cases p.value <;> rfl

/-- R145, R151: an octet that counts up to 255. -/
theorem satInc_octet (x : Byte) : satInc x = if x = 255 then 255 else x + 1 := by
  by_cases h : x = 255
  · rw [h]
    rfl
  · rw [if_neg h]
    exact if_neg h

/-- R145: a drop or an eviction is counted. -/
theorem State.countReportDrop_eq (s : State) : s.countReportDrop =
    { s with
      stationCounters := (s.countStation .reportDrop).stationCounters
      reports := { s.reports with dropped := if s.reports.dropped = 255 then 255 else s.reports.dropped + 1 } } := by
  rw [← satInc_octet]
  rfl

/-- Settles O58: the outcomes by their conditions, in their order. -/
theorem reportIsFoldedCreatedOrDropped : Obligations.ReportIsFoldedCreatedOrDropped := by
  unfold Obligations.ReportIsFoldedCreatedOrDropped
  intro s p q now same
  have hsame (x : ReportRecord) : same x ↔ x.isUnsentOf p.kind p.source = true := ReportRecord.isUnsentOf_iff.symm
  refine ⟨fun l₁ l₂ x hl hx hold => ?folded, fun hnew => ?placed⟩
  case folded =>
    rw [State.handReport_folded hl ((hsame x).1 hx) fun y hy => by simpa [hsame] using hold y hy, ReportRecord.fold_eq]
    rfl
  case placed =>
    have new : ∀ x ∈ s.reports.records, ¬x.isUnsentOf p.kind p.source = true := fun x hx h => hnew x hx ((hsame x).2 h)
    refine ⟨fun room => State.handReport_created new room, fun full => ?_⟩
    intro counted
    have hcounted : s.countReportDrop = counted := s.countReportDrop_eq
    rw [← hcounted]
    refine ⟨fun hhigh => State.handReport_dropped new full fun hlow => ?dropped,
      fun l₁ l₂ x hl hu hlow hmin hold => ?evicted⟩
    case dropped =>
      obtain ⟨x, hx, hxu, e⟩ := lowSeverity_attained _ (hlow.trans p.severity.isLt)
      exact (hhigh x hx hxu).not_gt (e ▸ hlow)
    case evicted =>
      have hlow : lowSeverity s.reports.records < p.severity.toNat :=
        (lowSeverity_le (by simp [show s.reports.records = _ from hl]) hu).trans_lt hlow
      rw [State.handReport_evicted new full hlow, State.modReports,
        ReportQueue.evict_eq (q := s.countReportDrop.reports) hl hu hmin hold]

end Sys2Proof.Machine
end

section
/-! Every command changes the Fault Report Queue by its moves alone (R141 to R156), and so keeps law 8 and the numbering. -/

namespace Sys2Proof.Machine

/-- R152: the records that REPORT_ACK names leave the queue, the others stay. -/
theorem removeNumbered_eq (l : List ReportRecord) (ns : List W16) : removeNumbered l ns =
    (l.filter (fun x => !ns.contains x.number), l.length - (l.filter (fun x => !ns.contains x.number)).length) := by
  induction ns generalizing l with
  | nil => simp [removeNumbered]
  | cons n ns ih =>
    have hkept : (l.filter (fun x => x.number != n)).filter (fun x => !ns.contains x.number) =
        l.filter (fun x => !(n :: ns).contains x.number) := by
      rw [List.filter_filter]
      refine List.filter_congr fun x _ => ?_
      rw [List.contains_cons, Bool.not_or, Bool.and_comm]
      rfl
    have hfirst := List.length_filter_le (fun x : ReportRecord => x.number != n) l
    have hrest := List.length_filter_le (fun x : ReportRecord => !ns.contains x.number) (l.filter (fun x => x.number != n))
    rw [hkept] at hrest
    simp only [removeNumbered, ih, hkept, Prod.mk.injEq, true_and]
    omega

/-! ## Moves through an operation -/

/-- The report queue of a state comes from `q` by moves. -/
def State.ReportsFrom (s : State) (q : ReportQueue) : Prop := Relation.ReflTransGen ReportQueue.Move q s.reports

namespace State.ReportsFrom

variable {s : State} {q : ReportQueue}

theorem modReports {f : ReportQueue → ReportQueue} (h : s.ReportsFrom q) (m : s.reports.Move (f s.reports)) :
    (s.modReports f).ReportsFrom q := h.tail m

/-- R147 to R149. -/
theorem sendAttempt (h : s.ReportsFrom q) : s.sendAttempt.ReportsFrom q := by
  refine State.attemptSend_keeps (fun t => t.ReportsFrom q) (fun t r ht hr few _ _ => ?_) (fun t d ht => ?_) 5 s h
  · obtain ⟨hx, l₁, l₂, hl, hold⟩ := List.find?_eq_some_iff_append.1 hr
    rw [State.offerReport_eq hl hx hold]
    exact (ht.tail (.offered _ hl ((offerTest_iff _ _).1 hx).1 few)).tail (.note _ _ _)
  · exact ht.tail (.note _ _ _)

theorem countReportDrop (h : s.ReportsFrom q) : s.countReportDrop.ReportsFrom q := h.tail (.note _ _ _)

/-- R144 to R147. -/
theorem handReport (h : s.ReportsFrom q) (p : Report) : (s.handReport p).ReportsFrom q := by
  by_cases new : ∀ x ∈ s.reports.records, ¬x.isUnsentOf p.kind p.source = true
  · by_cases room : s.reports.records.length < 24
    · rw [State.handReport_created new room]
      exact (h.modReports (.created p _ new room)).sendAttempt
    · by_cases low : lowSeverity s.reports.records < p.severity.toNat
      · rw [State.handReport_evicted new (Nat.not_lt.1 room) low]
        exact .sendAttempt (.modReports (s := s.countReportDrop) h.countReportDrop
          (.evicted p _ new (low.trans p.severity.isLt)))
      · rw [State.handReport_dropped new (Nat.not_lt.1 room) low]
        exact h.countReportDrop.sendAttempt
  · push Not at new
    obtain ⟨l₁, x, l₂, hl, hx, hold⟩ := first_split new
    rw [State.handReport_folded hl hx hold]
    exact (h.modReports (.folded p _ hl)).sendAttempt

/-- R151. -/
theorem returnRecord (h : s.ReportsFrom q) (n : W16) : (s.returnRecord n).ReportsFrom q := by
  unfold State.returnRecord
  split
  · exact h
  · rename_i r hr
    obtain ⟨-, flying⟩ : r.number = n ∧ r.state = .inFlight := by
      simpa using List.find?_some (p := fun r : ReportRecord => r.number == n && r.state == .inFlight) hr
    exact (h.modReports (.returned (List.mem_of_find?_eq_some hr) flying)).sendAttempt

/-- R152. -/
theorem acknowledge (h : s.ReportsFrom q) (ns : List W16) : (s.acknowledge ns).1.ReportsFrom q := by
  have hkept : (s.modReports (fun q => { q with records := (removeNumbered s.reports.records ns).1 })).ReportsFrom q := by
    refine h.modReports (.removed ?_)
    rw [removeNumbered_eq]
    exact List.filter_sublist
  unfold State.acknowledge
  extract_lets r t
  split
  · exact hkept
  · exact hkept.sendAttempt

/-- R173: a queue after reset. -/
theorem reset (s : State) (q : ReportQueue) : s.blocksAfterReset.ReportsFrom q := .single .reset

/-! ## Answers and renewal (R99 to R117, R160) -/

theorem offerAnswer (h : s.ReportsFrom q) (k t : Byte) (c : Completion) (b : List Byte) (x m : Bool) :
    (s.offerAnswer k t c b x m).ReportsFrom q := by
  rcases s.offerAnswer_cases k t c b x m with ⟨_, e⟩ | ⟨_, e⟩ <;> rw [e] <;> exact h

theorem joinInbox (h : s.ReportsFrom q) (m : ControlMessage) : (s.joinInbox m).ReportsFrom q := by
  rcases s.joinInbox_cases m with ⟨_, e⟩ | ⟨_, e⟩ <;> rw [e] <;> exact h

theorem offerRenewRequest (h : s.ReportsFrom q) (a : AssocId) : (s.offerRenewRequest a).ReportsFrom q := by
  rcases s.offerRenewRequest_cases a with e | ⟨_, _, e⟩ <;> rw [e] <;> exact h

theorem evaluateDue (h : s.ReportsFrom q) (a : AssocId) : (s.evaluateDue a).ReportsFrom q := by
  rcases s.evaluateDue_cases a with ⟨_, _, e⟩ | ⟨_, _, e⟩ | ⟨_, e⟩ <;> rw [e]
  · exact h
  · exact h.offerRenewRequest a
  · exact h

theorem evaluateAll (h : s.ReportsFrom q) (l : List AssocId) : (s.evaluateAll l).ReportsFrom q :=
  State.evaluateAll_keeps (fun t => t.ReportsFrom q) (fun _ a h => h.evaluateDue a) l s h

theorem promote (h : s.ReportsFrom q) (a : AssocId) (b : BankId) : (s.promote a b).ReportsFrom q :=
  .evaluateDue (s := s.modAssoc _ _) h a

theorem renewTimerExpires (h : s.ReportsFrom q) (a : AssocId) : (s.renewTimerExpires a).ReportsFrom q := by
  unfold State.renewTimerExpires
  split
  · exact h
  · split_ifs
    · exact h
    · exact h.offerRenewRequest a
    · exact h

theorem exhaust (h : s.ReportsFrom q) (a : AssocId) (b : BankId) : (s.exhaust a b).ReportsFrom q := by
  unfold State.exhaust
  extract_lets t
  split
  · exact h
  · exact .handReport (s := t.modBank _ _ _) h _

theorem endTransaction (h : s.ReportsFrom q) (a : AssocId) (c : Completion) : (s.endTransaction a c).ReportsFrom q := by
  unfold State.endTransaction
  split
  · exact h
  · exact .evaluateDue (s := State.modAssoc _ _ _) (h.offerAnswer _ _ _ _ _ _) a

theorem wrapReject (h : s.ReportsFrom q) (a : AssocId) : (s.wrapReject a).ReportsFrom q :=
  .handReport (s := s.countStation .wrapReject) h _

theorem finishOffer (h : s.ReportsFrom q) (i : UnwrapItem) (key : Key) (p : Bool) :
    (s.finishOffer i key p).ReportsFrom q := by
  unfold State.finishOffer
  split
  · split
    · exact .endTransaction (.wrapReject (s := s.spendChoice) h _) _ _
    · exact .wrapReject (.endTransaction (s := s.spendChoice) h _ _) _
  · exact .endTransaction (s := State.modAssoc _ _ _) h _ _
  · exact h.endTransaction _ _

/-! ## The Cipher Engine (R43 to R60) -/

theorem admitOutbound (h : s.ReportsFrom q) (i : OutItem) : (s.admitOutbound i).ReportsFrom q := by
  unfold State.admitOutbound
  extract_lets r
  split
  · exact h
  · split
    · exact h
    · split_ifs
      · exact h.exhaust _ _
      · exact .evaluateDue (by exact h) _
      · exact h.exhaust _ _

theorem admitInbound (h : s.ReportsFrom q) (i : InItem) : (s.admitInbound i).ReportsFrom q := by
  unfold State.admitInbound
  extract_lets r
  split
  · exact h
  · split_ifs
    · exact h
    · exact .evaluateDue (by exact h) _
    · exact h.exhaust _ _

theorem admitUnwrap (h : s.ReportsFrom q) (i : UnwrapItem) : (s.admitUnwrap i).ReportsFrom q := by
  unfold State.admitUnwrap
  split_ifs
  · exact h.endTransaction _ _
  · exact .evaluateDue (by exact h) _
  · exact .endTransaction (.exhaust (s := s.spendChoice) h _ _) _ _
  · exact .exhaust (.endTransaction (s := s.spendChoice) h _ _) _ _

theorem serve (h : s.ReportsFrom q) (c : ArbiterChoice) : (s.serve c).ReportsFrom q := by
  cases c with
  | unwrap =>
    show s.serveUnwrap.ReportsFrom q
    unfold State.serveUnwrap
    split
    · exact h
    · exact .admitUnwrap (by exact h) _
  | inbound =>
    show s.serveInbound.ReportsFrom q
    unfold State.serveInbound
    split
    · exact h
    · exact .admitInbound (by exact h) _
  | outbound =>
    show s.serveOutbound.ReportsFrom q
    unfold State.serveOutbound
    split
    · exact h
    · exact .admitOutbound (by exact h) _

theorem completeInbound (h : s.ReportsFrom q) (i : InItem) (p g : List Byte) : (s.completeInbound i p g).ReportsFrom q := by
  have accepted (t : State) (ht : t.ReportsFrom q) : (t.acceptInbound i).ReportsFrom q := by
    rw [State.acceptInbound_eq]
    extract_lets u
    split
    · exact .promote (s := u) ht _ _
    · exact ht
  have delivered (t : State) (ht : t.ReportsFrom q) : (t.deliver i p).ReportsFrom q := by
    unfold State.deliver State.joinDelivery
    split_ifs
    · exact ht.joinInbox _
    · exact ht
    · exact ht
  unfold State.completeInbound
  extract_lets t
  split_ifs
  · exact h
  · exact h
  · exact delivered _ (accepted t h)
  · exact h

/-! ## Control messages (R158 to R168) -/

theorem reply (h : s.ReportsFrom q) (m : ControlMessage) (c : Completion) (b : List Byte) :
    (s.reply m c b).ReportsFrom q := h.offerAnswer _ _ _ _ _ _

theorem conclude (h : s.ReportsFrom q) (m : ControlMessage) (c : Completion) (b : List Byte) :
    (s.conclude m c b).ReportsFrom q := by
  unfold State.conclude
  split <;> exact h.reply _ _ _

theorem writeEntries (h : s.ReportsFrom q) (t : TableId) (first count : Nat) (l : List Byte) :
    (s.writeEntries t first count l).1.ReportsFrom q := by
  refine List.foldlRecOn (motive := fun w : Written => w.1.ReportsFrom q) _ _ h fun w hw _ _ => ?_
  cases t with
  | assocConfig =>
    show (writePolicyEntry _ _ _).1.ReportsFrom q
    unfold writePolicyEntry
    split
    · split <;> exact hw
    · exact hw
  | flow =>
    show (writeFlowEntry _ _ _).1.ReportsFrom q
    unfold writeFlowEntry
    split <;> exact hw
  | monitor =>
    show (writeMonitorEntry _ _ _).1.ReportsFrom q
    unfold writeMonitorEntry
    split
    · split <;> exact hw
    · exact hw
  | _ => exact hw

theorem takeTableWrite (h : s.ReportsFrom q) (m : ControlMessage) : (s.takeTableWrite m).ReportsFrom q := by
  unfold State.takeTableWrite
  extract_lets table first count
  split
  · exact h.reply _ _ _
  · rename_i t _
    extract_lets w body named
    have hw : w.1.ReportsFrom q := h.writeEntries _ _ _ _
    split_ifs
    · exact hw.reply _ _ _
    · exact .reply (.evaluateAll (s := w.1.spendChoice) hw _) _ _ _
    · exact .evaluateAll (.reply (s := w.1.spendChoice) hw _ _ _) _

theorem openAssoc (h : s.ReportsFrom q) (a : AssocId) : (s.openAssoc a).1.ReportsFrom q := by
  unfold State.openAssoc
  split
  · exact h
  · split <;> exact h

theorem closeAssoc (h : s.ReportsFrom q) (a : AssocId) : (s.closeAssoc a).1.ReportsFrom q := by
  have closing : (s.startClosing a).ReportsFrom q := .evaluateDue (s := s.modAssoc _ _) h a
  unfold State.closeAssoc
  split
  · exact h
  · split
    · exact h
    · exact h
    all_goals exact closing

theorem keyOffer (h : s.ReportsFrom q) (o : Byte) (g : W16) (t : Byte) (v : Carrier) (k : Key) (c : BitVec 64) :
    (s.keyOffer o g t v k c).1.ReportsFrom q := by
  unfold State.keyOffer
  split
  · exact h
  · split
    · exact h
    · exact .evaluateDue (by exact h) _

theorem keySwitch (h : s.ReportsFrom q) (o : Byte) (g : W16) : (s.keySwitch o g).1.ReportsFrom q := by
  unfold State.keySwitch
  split
  · exact h
  · split
    · split
      · exact h.promote _ _
      · split <;> exact h
    · split <;> exact h

theorem keyWithdraw (h : s.ReportsFrom q) (o : Byte) (g : W16) : (s.keyWithdraw o g).1.ReportsFrom q := by
  unfold State.keyWithdraw
  split
  · exact h
  · split
    · exact h
    · split_ifs
      · exact h
      · exact h
      · exact .evaluateDue (s := s.modBank _ _ _) h _

theorem handleMessage (h : s.ReportsFrom q) (m : ControlMessage) (k : MessageKind) :
    (s.handleMessage m k).ReportsFrom q := by
  cases k with
  | echo => exact h.reply _ _ _
  | tableRead => exact h.conclude _ _ _
  | tableWrite => exact h.takeTableWrite m
  | assocOpen =>
    show (s.takeAssocOpen m).ReportsFrom q
    unfold State.takeAssocOpen
    split
    · exact h.reply _ _ _
    · exact (h.openAssoc _).conclude _ _ _
  | assocClose =>
    show (s.takeAssocClose m).ReportsFrom q
    unfold State.takeAssocClose
    split
    · exact h.reply _ _ _
    · exact (h.closeAssoc _).conclude _ _ _
  | assocResume =>
    show (s.takeAssocResume m).ReportsFrom q
    unfold State.takeAssocResume
    split
    · exact h.reply _ _ _
    · exact .conclude (s := s.modAssoc _ _) h _ _ _
  | keyOffer =>
    show (s.takeKeyOffer m).ReportsFrom q
    unfold State.takeKeyOffer
    extract_lets r
    have hr : r.1.ReportsFrom q := h.keyOffer _ _ _ _ _ _
    split
    · exact hr
    · exact hr.reply _ _ _
  | keySwitch => exact (h.keySwitch _ _).reply _ _ _
  | keyWithdraw => exact (h.keyWithdraw _ _).reply _ _ _
  | monitorClear =>
    show (s.takeMonitorClear m).ReportsFrom q
    unfold State.takeMonitorClear
    extract_lets o
    split
    · exact .reply (s := s.setMonitor _ _) h _ _ _
    · exact h.reply _ _ _
  | reportAck => exact (h.acknowledge _).reply _ _ _
  | serviceSet =>
    show (s.takeServiceSet m).ReportsFrom q
    unfold State.takeServiceSet
    extract_lets v
    split
    · exact .reply (s := s.modManagement _) h _ _ _
    · exact h.reply _ _ _
  | restart => exact .offerAnswer (s := s.modManagement _) h _ _ _ _ _ _

theorem takeHead (h : s.ReportsFrom q) : s.takeHead.ReportsFrom q := by
  unfold State.takeHead State.takeMessage
  split
  · exact h
  · split
    · exact .reply (s := s.modManagement _) h _ _ _
    · exact .handleMessage (s := s.modManagement _) h _ _

/-- R44, R158: the settling of an event. -/
theorem settle (h : s.ReportsFrom q) : s.settle.ReportsFrom q :=
  State.settle_keeps (fun t => t.ReportsFrom q) (fun _ h _ => h.takeHead) (fun _ c h _ => h.serve c) (fun _ h => h) s h

/-! ## Time and the monitors (R110 to R139, R171) -/

theorem reach (h : s.ReportsFrom q) (t : Nat) : (s.reach t).ReportsFrom q := by
  unfold State.reach
  split <;> exact h

theorem reachSecond (h : s.ReportsFrom q) (d : Option Nat) : (s.reachSecond d).ReportsFrom q := by
  unfold State.reachSecond
  split <;> exact h

theorem passSecond (h : s.ReportsFrom q) : s.passSecond.ReportsFrom q := by
  unfold State.passSecond State.storeSecond
  refine .settle (.evaluateAll ?_ _)
  split <;> exact h

theorem drainExpiry (h : s.ReportsFrom q) (a : AssocId) (b : BankId) : (s.drainExpiry a b).ReportsFrom q := by
  unfold State.drainExpiry
  split
  · exact h
  · split <;> exact h

theorem inhibitExpires (h : s.ReportsFrom q) (m : MonitorId) : (s.inhibitExpires m).ReportsFrom q := by
  unfold State.inhibitExpires
  extract_lets r
  split <;> exact h

theorem runAction (h : s.ReportsFrom q) (c : MonitorConfig) : (s.runAction c).ReportsFrom q := by
  unfold State.runAction
  split
  · exact h
  · exact .evaluateDue (s := s.modAssoc _ _) h _
  · exact h

theorem takeSample (h : s.ReportsFrom q) (m : MonitorId) : (s.takeSample m).ReportsFrom q := by
  unfold State.takeSample
  split
  · extract_lets r p
    unfold State.sampleEffect
    split
    · exact h
    · unfold State.fire
      extract_lets report
      split
      · exact .runAction (.handReport (by exact h) _) _
      · exact .handReport (.runAction (by exact h) _) _
    · exact .handReport (s := s.setMonitor _ _) h _
  · exact h

/-! ## The lines (R22 to R37, R67 to R98) -/

theorem shopFrame (h : s.ReportsFrom q) (o : List Byte) (e : Bool) : (s.shopFrame o e).ReportsFrom q := by
  have protects (t : State) (ht : t.ReportsFrom q) (a : AssocId) (p : List Byte) : (t.protectFrame a p).ReportsFrom q := by
    unfold State.protectFrame
    split_ifs
    · exact ht
    · exact .settle (s := t.joinOutbound _) ht
    · exact ht
  unfold State.shopFrame State.classify
  extract_lets frame t
  split_ifs
  · exact h
  · exact h
  · split
    · exact h
    · split_ifs
      · exact h
      · exact protects (t.countHit _) h _ _

theorem receiveOctet (h : s.ReportsFrom q) (o : Byte) : (s.receiveOctet o).ReportsFrom q := by
  have forBank (t : State) (ht : t.ReportsFrom q) (c : List Byte) : (t.frameForBank c).ReportsFrom q := by
    unfold State.frameForBank
    extract_lets a
    split
    · exact ht
    · split_ifs
      · exact ht
      · exact ht
      · exact .settle (s := t.joinInbound _) ht
  have arrives (t : State) (ht : t.ReportsFrom q) (c : List Byte) : (t.trunkFrame c).ReportsFrom q := by
    unfold State.trunkFrame
    extract_lets a
    split_ifs
    · exact ht
    · exact ht
    · exact ht
    · exact ht
    · exact ht
    · exact forBank t ht c
    · exact ht
  unfold State.receiveOctet State.framingEffect
  split
  · exact h
  · exact h
  · exact arrives (s.modReceiver _) h _

theorem releaseBurst (h : s.ReportsFrom q) : s.releaseBurst.ReportsFrom q := by
  unfold State.releaseBurst
  split
  · exact .settle (.handReport (s := s.modAccess _) h _)
  · exact h

theorem clockLost (h : s.ReportsFrom q) : s.clockLost.ReportsFrom q := by
  refine .settle (.handReport ?_ _)
  unfold State.receiverClockLoss
  split <;> exact h

theorem sentFrame (h : s.ReportsFrom q) : s.sentFrame.ReportsFrom q := by
  unfold State.sentFrame State.frameLeaves
  split
  · exact h
  · split
    · exact h
    · split
      · exact reset s q
      · exact .settle (s := (s.modSendQueue _).modAccess _) h

/-- R173, R174. -/
theorem startUp (s : State) (q : ReportQueue) (straps : BitVec 3) (pace : Pace) (o : StartUpOutcome) :
    (s.startUp straps pace o).ReportsFrom q := by
  cases o with
  | completed =>
    simp only [State.startUp, State.completeStartUp]
    exact .settle (.handReport (by exact reset s q) _)
  | abandonedBeforeWrite c => exact reset s q
  | abandonedAfterWrite c => exact reset s q

/-! ## Commands -/

theorem of_event {t : State} {c : Bool} {f : State → State} (h : s.ReportsFrom q) (e : s.event c f = .next t)
    (hf : (f s).ReportsFrom q) : t.ReportsFrom q := by
  unfold State.event at e
  split at e <;> cases e
  · exact hf
  · exact h

/-- A control message's arrival, its taking and what follows at that event. -/
theorem of_message {t : State} {m : ControlMessage} (h : s.ReportsFrom q) (e : s.messageEvent m = .next t) :
    t.ReportsFrom q := h.of_event e (h.joinInbox m).settle

theorem of_lineEvent {t : State} {c : Bool} {f : State → State} (h : s.ReportsFrom q) (e : s.lineEvent c f = .next t)
    (hf : s.clockEdge.ReportsFrom q → (f s.clockEdge).ReportsFrom q) : t.ReportsFrom q := h.of_event e (hf h)

/-- Every command changes the Fault Report Queue by moves alone. -/
theorem exec {c : Instr} {t : State} (h : s.ReportsFrom q) (e : exec c s = .next t) : t.ReportsFrom q := by
  cases c <;> simp only [Machine.exec] at e
  case shopFrameArrival o m => exact h.of_event e (h.shopFrame o m)
  case shopTransmitStart | shopTransmissionEnd => exact h.of_event e h
  case trunkFramingDrop | trunkFrameArrival | trunkReceiveOctet => exact h.of_lineEvent e fun h => h.receiveOctet _
  case outboundCompletion =>
    refine h.of_event e ?_
    unfold State.outboundDone State.completeOutbound
    split
    · refine .settle ?_
      extract_lets u
      split <;> exact h
    · exact h
  case inboundCompletion =>
    refine h.of_event e ?_
    unfold State.inboundDone
    split
    · exact (h.completeInbound _ _ _).settle
    · exact h
  case unwrapCompletion =>
    refine h.of_event e ?_
    unfold State.unwrapDone
    split
    · exact .settle (.finishOffer (s := s.engineIdle) h _ _ _)
    · exact h
  case restartLimitExpiry => exact h.of_event e (reset s q)
  case resetCondition c p =>
    cases e
    split
    · exact reset s q
    · unfold State.conditionEnds
      split <;> exact h
  case startUp straps pace o =>
    cases e
    split
    · exact startUp s q straps pace o
    · exact h
  case timeBaseSecond => exact h.of_event e h.passSecond
  case drainDeadlineExpiry a b => exact h.of_event e ((h.reachSecond _).drainExpiry a b)
  case renewRequestTimerExpiry a => exact h.of_event e ((h.reachSecond _).renewTimerExpires a).settle
  case startupInhibitExpiry m => exact h.of_event e ((h.reachSecond _).inhibitExpires m)
  case monitorSample m => exact h.of_event e ((h.reachSecond _).takeSample m).settle
  case ackDeadlineExpiry n => exact h.of_event e ((h.reach _).returnRecord n).settle
  case pacingTimerExpiry | retryTimerExpiry =>
    exact h.of_event e (.settle (.sendAttempt ((h.reach _).modReports (.note _ _ _))))
  case frameSent => exact h.of_lineEvent e fun h => h.sentFrame
  case burstRelease => exact h.of_lineEvent e fun h => h.releaseBurst
  case standoffExpiry => exact h.of_event e (h.reach _)
  case paceHold p =>
    refine h.of_event e ?_
    unfold State.hold
    split <;> exact h
  case paceGo | trunkClockReturn => exact h.of_event e h
  case trunkClockLoss => exact h.of_event e (h.reach _).clockLost
  case lineQuiet | openGap | claimByOtherStation | lineWatchGuard | claimStart | claimLost | claimWon | clash
      | huntDelimiterFound | busyPeriodEnd | lineWatchOctet => exact h.of_lineEvent e fun h => h
  all_goals exact h.of_message e

theorem step {t : State} (h : s.ReportsFrom q) (e : step s = .next t) : t.ReportsFrom q := by
  unfold Machine.step at e
  split at e
  · rename_i rest _
    exact exec (s := { s with pending := rest }) h e
  · split at e
    · unfold idleStep at e
      split at e
      · exact exec (s := s.spendChoice) h e
      · cases e
        exact h.reach _
    · cases e
      exact h

/-- What every move keeps, moves keep. -/
theorem keeps {P : ReportQueue → Prop} (moves : ∀ q q', q.Move q' → P q → P q') (h : s.ReportsFrom q) (hq : P q) :
    P s.reports := by
  unfold State.ReportsFrom at h
  generalize s.reports = t at h ⊢
  induction h with
  | refl => exact hq
  | tail _ m ih => exact moves _ _ m ih

end State.ReportsFrom

/-- Settles O7: a step changes the Fault Report Queue by moves alone, and each move keeps law 8 and the numbering. -/
theorem everyStepKeepsTheReportQueueLawful : Obligations.EveryStepKeepsTheReportQueueLawful := by
  have from_before {s t : State} (e : step s = .next t) : t.ReportsFrom s.reports := State.ReportsFrom.step .refl e
  exact ⟨fun s t hs e => (from_before e).keeps (fun _ _ m => m.lawful) hs,
    fun s t hs e => (from_before e).keeps (fun _ _ m => m.numbered) hs⟩

end Sys2Proof.Machine
end

section
/-! REPORT_ACK (R152, R166) and the timers of the Fault Report Queue (R147, R149, R151). -/

namespace Sys2Proof.Machine

/-! ## REPORT_ACK -/

theorem length_ackBody (numbers : List W16) : (numbers.flatMap (word 2)).length = 2 * numbers.length := by
  simp [List.length_flatMap, Nat.mul_comm]

/-- R166: the numbers read back from the octets they are carried in. -/
theorem ackNumbers_flatMap (numbers : List W16) : ackNumbers (numbers.flatMap (word 2)) = numbers := by
  rw [ackNumbers, length_ackBody, Nat.mul_div_cancel_left _ Nat.two_pos]
  induction numbers with
  | nil => rfl
  | cons n numbers ih =>
    have hrest (i : Nat) : word16At (word 2 n ++ numbers.flatMap (word 2)) (2 * (i + 1)) =
        word16At (numbers.flatMap (word 2)) (2 * i) := by
      rw [show 2 * (i + 1) = (word 2 n).length + 2 * i by rw [length_word]; omega, ← word16At_drop, List.drop_left]
    rw [List.flatMap_cons, List.length_cons, List.range_succ_eq_map, List.map_cons, List.map_map]
    refine congrArg₂ _ (word16At_word n _) (Eq.trans ?_ ih)
    exact List.map_congr_left fun i _ => hrest i

/-- R152: the records named leave, and a send attempt follows when there was one. -/
theorem State.acknowledge_eq (s : State) (ns : List W16) :
    let kept := s.reports.records.filter (fun x => !ns.contains x.number)
    let removed := s.reports.records.length - kept.length
    s.acknowledge ns =
      (if removed = 0 then s else ({ s with reports := { s.reports with records := kept } } : State).sendAttempt,
        removed) := by
  intro kept removed
  have hremoved : removeNumbered s.reports.records ns = (kept, removed) := removeNumbered_eq _ _
  rw [State.acknowledge, hremoved]
  by_cases h : removed = 0
  · have hkept : kept = s.reports.records := List.filter_sublist.eq_of_length_le (Nat.sub_eq_zero_iff_le.1 h)
    simp only [h, if_true, hkept]
    rfl
  · simp only [h, if_false]
    rfl

/-- R160, R166: REPORT_ACK and its answer. -/
theorem State.takeReportAck_eq (s : State) (via : Carrier) (tag : Byte) (numbers : List W16) :
    s.takeReportAck (reportAckMessage via tag numbers) =
      (s.acknowledge numbers).1.answeredWith [0xB1, tag, 0, 1, 0, BitVec.ofNat 8 (s.acknowledge numbers).2] false := by
  have hnumbers : ackNumbers ((reportAckMessage via tag numbers).octets.drop 4) = numbers := by
    rw [reportAckMessage, drop_messageOctets _ _ _ 0]
    exact ackNumbers_flatMap numbers
  rw [State.takeReportAck, hnumbers, State.reply_eq, reportAckMessage, octetAt_messageOctets_kind, octetAt_messageOctets_tag,
    answerOctets_short _ _ _ _ (by simp)]
  rfl

/-- Settles O51: the message is taken at once, and its answer follows the send attempt. -/
theorem reportAckRemovesItsRecords : Obligations.ReportAckRemovesItsRecords := by
  unfold Obligations.ReportAckRemovesItsRecords
  intro s via tag numbers h hmin hmax kept removed answer
  have answered {t : State} (ht : (s.acknowledge numbers) = (t, removed)) (hk : t.engine.current = s.engine.current)
      (hi : t.management.inbox = s.management.inbox) :
      exec (.reportAck via tag numbers) s = .next (t.answeredWith answer false) := by
    have hlength := length_ackBody numbers
    refine exec_handled (k := .reportAck) rfl rfl h (by omega) (by simp [MessageKind.allowsLength, hlength]; omega) ?_ hk hi
    exact (s.takeReportAck_eq via tag numbers).trans (by rw [ht])
  have hack := s.acknowledge_eq numbers
  refine ⟨fun h0 => answered (hack.trans (by rw [if_pos h0])) rfl rfl, fun h0 => ?_⟩
  obtain ⟨q, l, hframe⟩ := ({ s with reports := { s.reports with records := kept } } : State).sendAttempt_frame
  exact answered (hack.trans (by rw [if_neg h0])) (by rw [hframe]) (by rw [hframe])

/-! ## The timers -/

/-- R172: an expiry on the millisecond count that changes the queue, with a send attempt after it. -/
theorem State.event_attempt {s : State} {d : Option Nat} {t : Nat} {f : State → State} {q : ReportQueue} (hb : s.Busy)
    (hd : d = some t) (hu : s.Unobstructed t) (hf : f s = ({ s.comesTo t with reports := q } : State).sendAttempt.settle) :
    s.event (s.expires d) f = .next ({ s.comesTo t with reports := q } : State).sendAttempt := by
  have hsettled : ({ s.comesTo t with reports := q } : State).sendAttempt.settle =
      ({ s.comesTo t with reports := q } : State).sendAttempt := by
    obtain ⟨c, hframe⟩ := s.comesTo_frame t
    refine State.settle_sendAttempt ?_ ?_
    · rw [hframe]
      exact hb.busy
    · rw [hframe]
      exact hb.inbox
  rw [State.expires_of_unobstructed hd hu, State.event_running hb.running, hf, hsettled]

theorem State.comesTo_reports (s : State) (t : Nat) : (s.comesTo t).reports = s.reports := by
  obtain ⟨c, hframe⟩ := s.comesTo_frame t
  rw [hframe]

/-- R151: the record IN_FLIGHT that holds its number. -/
theorem State.flyingRecord_eq {s : State} {l₁ l₂ : List ReportRecord} {x : ReportRecord}
    (hl : s.reports.records = l₁ ++ x :: l₂) (apart : s.reports.records.Pairwise ReportRecord.Apart)
    (flying : x.state = .inFlight) : s.flyingRecord x.number = some x := by
  rw [State.flyingRecord, List.find?_eq_some_iff_append]
  refine ⟨by simp [flying], l₁, l₂, hl, fun y hy => ?_⟩
  rw [hl] at apart
  have hyx : y.Apart x := (List.pairwise_append.1 apart).2.2 y hy x List.mem_cons_self
  simp [hyx.1]

/-- R151: what the return of a record leaves, once its ack deadline is reached. -/
theorem exec_ackDeadlineExpiry {s : State} {t : Nat} {l₁ l₂ : List ReportRecord} {x : ReportRecord} (hb : s.Busy)
    (hu : s.Unobstructed t) (lawful : s.reports.Lawful) (hl : s.reports.records = l₁ ++ x :: l₂)
    (flying : x.state = .inFlight) (hd : x.ackDeadline = some t) :
    exec (.ackDeadlineExpiry x.number) s = .next
      ({ s.comesTo t with reports := { s.reports with records := mergeReturning s.reports.records x } } : State
        ).sendAttempt := by
  have hdeadline : s.ackDeadlineOf x.number = some t := by
    rw [State.ackDeadlineOf, State.flyingRecord_eq hl lawful.apart flying]
    exact hd
  show execAckDeadlineExpiry x.number s = _
  refine State.event_attempt hb hdeadline hu ?_
  have hflying : (s.comesTo t).flyingRecord x.number = some x := by
    rw [State.flyingRecord, s.comesTo_reports t]
    exact State.flyingRecord_eq hl lawful.apart flying
  rw [State.reachDeadline_eq_comesTo hdeadline]
  simp only [State.returnRecord, hflying, State.modReports, s.comesTo_reports t]

/-- R151: counts of 16 bits add up to at most 65535. -/
theorem satAdd_word (x y : W16) : satAdd x y = if x.toNat + y.toNat ≤ 65535 then x + y else 65535 := by
  unfold satAdd
  exact if_congr Nat.lt_succ_iff rfl rfl

theorem ReportRecord.returned_eq (x : ReportRecord) : x.returned =
    { x with
      state := .unsent
      ackDeadline := none
      resendCount := if x.resendCount = 255 then 255 else x.resendCount + 1 } := by
  rw [← satInc_octet]
  rfl

theorem ReportRecord.mergeFrom_returned (u x : ReportRecord) :
    let resends := if x.resendCount = 255 then 255 else x.resendCount + 1
    u.mergeFrom x.returned =
      { u with
        firstTime := if x.firstTime.toNat < u.firstTime.toNat then x.firstTime else u.firstTime
        occurrences :=
          if u.occurrences.toNat + x.occurrences.toNat ≤ 65535 then u.occurrences + x.occurrences else 65535
        severity := if u.severity.toNat < x.severity.toNat then x.severity else u.severity
        resendCount := if u.resendCount.toNat < resends.toNat then resends else u.resendCount } := by
  rw [ReportRecord.returned_eq, ← satAdd_word]
  rfl

/-- Settles O60: each expiry changes the queue, and the send attempt after it ends the event. -/
theorem reportTimersExpire : Obligations.ReportTimersExpire := by
  unfold Obligations.ReportTimersExpire
  intro s t hb hu q afterExpiry
  refine ⟨fun hd => ?pacing, fun hd => ?retry, fun lawful l₁ l₂ x hl flying hd => ?ack⟩
  case pacing =>
    show execPacingTimerExpiry s = _
    refine State.event_attempt hb hd hu ?_
    rw [State.reachDeadline_eq_comesTo hd, State.modReports, s.comesTo_reports t]
  case retry =>
    show execRetryTimerExpiry s = _
    refine State.event_attempt hb hd hu ?_
    rw [State.reachDeadline_eq_comesTo hd, State.modReports, s.comesTo_reports t]
  case ack =>
    intro resends
    have returns {l : List ReportRecord} (h : mergeReturning q.records x = l) :
        exec (.ackDeadlineExpiry x.number) s = .next (afterExpiry { q with records := l }) :=
      h ▸ exec_ackDeadlineExpiry hb hu lawful hl flying hd
    refine ⟨fun halone => returns ?alone, fun u hs hk hsrc => ?merges⟩
    case alone =>
      rw [mergeReturning_alone hl lawful.apart fun y hy h => halone y hy (ReportRecord.isUnsentOf_iff.1 h),
        ReportRecord.returned_eq]
    case merges =>
      have hunsent : u.isUnsentOf x.kind x.source = true := ReportRecord.isUnsentOf_iff.2 ⟨hs, hk, hsrc⟩
      intro merged
      have hmerged : u.mergeFrom x.returned = merged := u.mergeFrom_returned x
      refine ⟨fun m₁ m₂ e => returns ?_, fun m₁ m₂ e => returns ?_⟩
      · rw [← hmerged]
        exact mergeReturning_pair (by simp [hl, e]) lawful.apart hunsent (.inr ⟨rfl, rfl⟩)
      · rw [← hmerged]
        exact mergeReturning_pair (by simp [hl, e]) lawful.apart hunsent (.inl ⟨rfl, rfl⟩)

end Sys2Proof.Machine
end

section
/-! The deadlines of the timers that run (R172): which of them lie at or after a reading of their count, and what the
operations over records do to them. -/

namespace Sys2Proof.Machine

/-! ## Records whose deadlines lie ahead -/

/-- R110: the drain deadline of a DRAINING bank lies at or after a reading of the seconds count. -/
def Bank.Ahead (k : Bank) (n : Nat) : Prop := k.state = .draining → ∀ t, k.drainDeadline = some t → n ≤ t

/-- R110, R114: so do the timers of an association. -/
def Assoc.Ahead (r : Assoc) (n : Nat) : Prop :=
  r.bankA.Ahead n ∧ r.bankB.Ahead n ∧ ∀ t, r.renewDeadline = some t → n ≤ t

/-- R125, R132: so do the timers of a monitor. -/
def Monitor.Ahead (r : Monitor) (n : Nat) : Prop :=
  (r.state = .inhibited → n ≤ r.config.startupInhibit.toNat) ∧
    (r.state.samples = true → ∀ t, r.nextSample = some t → n ≤ t)

/-- R151: the ack deadline of a record IN_FLIGHT lies at or after a reading of the millisecond count. -/
def ReportRecord.Ahead (x : ReportRecord) (m : Nat) : Prop :=
  x.state = .inFlight → ∀ t, x.ackDeadline = some t → m ≤ t

/-- R147, R149, R151: so do the timers of the Fault Report Queue. -/
def ReportQueue.Ahead (q : ReportQueue) (m : Nat) : Prop :=
  (∀ x ∈ q.records, x.Ahead m) ∧ (∀ t, q.pacingDeadline = some t → m ≤ t) ∧ ∀ t, q.retryDeadline = some t → m ≤ t

/-- R91: so does the standoff timer. -/
def Access.Ahead (x : Access) (m : Nat) : Prop := x.state = .standoff → ∀ t, x.standoffDeadline = some t → m ≤ t

/-- A deadline that was set is the one that is read. -/
theorem le_of_some_eq {n d t : Nat} (h : n ≤ d) (e : some d = some t) : n ≤ t := Option.some.inj e ▸ h

/-! ## Banks (R14 to R16, R55, R110) -/

theorem Bank.ahead_of_state {k : Bank} (h : k.state ≠ .draining) (n : Nat) : k.Ahead n := fun e => absurd e h

theorem emptyBank_ahead (n : Nat) : emptyBank.Ahead n := Bank.ahead_of_state (by decide) n

section
variable {k : Bank} {n : Nat} (h : k.Ahead n)
include h

theorem Bank.Ahead.release : k.release.Ahead n := by
  obtain ⟨_, _, e⟩ | ⟨_, e⟩ := k.release_cases <;> rw [e]
  · exact emptyBank_ahead n
  · exact h

theorem Bank.Ahead.mark (q : W32) : (k.mark q).Ahead n := by
  obtain ⟨_, _, e⟩ := k.mark_frame q
  rw [e]
  exact h

theorem Bank.Ahead.second : k.second.Ahead n := by
  unfold Bank.second
  split <;> exact h

/-- R14: a bank that begins to drain takes a deadline that lies ahead. -/
theorem Bank.Ahead.startDrain {d : Nat} (hd : n ≤ d) : (k.startDrain d).Ahead n := by
  unfold Bank.startDrain
  split
  · exact fun _ _ => le_of_some_eq hd
  · exact h

end

theorem Bank.ahead_drainExpires (k : Bank) (n : Nat) : k.drainExpires.Ahead n := by
  unfold Bank.drainExpires
  split
  · exact emptyBank_ahead n
  · exact Bank.ahead_of_state (by simp) n

/-! ## Associations (R3, R6, R14, R105) -/

section
variable {r : Assoc} {n : Nat}

theorem Assoc.Ahead.bank (h : r.Ahead n) (b : BankId) : (r.bank b).Ahead n := by
  obtain ⟨hA, hB, _⟩ := h
  cases b
  · exact hA
  · exact hB

theorem Assoc.Ahead.setBank (h : r.Ahead n) (b : BankId) {k : Bank} (hk : k.Ahead n) : (r.setBank b k).Ahead n := by
  obtain ⟨hA, hB, hr⟩ := h
  cases b
  · exact ⟨hk, hB, hr⟩
  · exact ⟨hA, hk, hr⟩

/-- R114: the renew-request timer starts with a deadline that lies ahead, or ends. -/
theorem Assoc.Ahead.renew (h : r.Ahead n) {d : Option Nat} (hd : ∀ t, d = some t → n ≤ t) :
    Assoc.Ahead { r with renewDeadline := d } n := by
  obtain ⟨hA, hB, _⟩ := h
  exact ⟨hA, hB, hd⟩

theorem Assoc.Ahead.settleClosing (h : r.Ahead n) : r.settleClosing.Ahead n := by
  obtain ⟨_, _, e⟩ | ⟨_, e⟩ := r.settleClosing_cases <;> rw [e]
  · exact ⟨emptyBank_ahead n, emptyBank_ahead n, nofun⟩
  · exact h

theorem Assoc.Ahead.landed (h : r.Ahead n) : r.landed.Ahead n :=
  Assoc.Ahead.settleClosing (r := { r with inFlight := r.inFlight - 1 }) h

/-- R14: the drain period runs from the promotion. -/
theorem Assoc.Ahead.promote (h : r.Ahead n) (b : BankId) : (r.promote b n).Ahead n := by
  have hdrained := (h.bank (otherBank b)).startDrain (Nat.le_add_right n r.policy.drainPeriod.toNat)
  exact (h.setBank _ hdrained).setBank b (Bank.ahead_of_state (by simp [Bank.activate]) n)

theorem Assoc.Ahead.install (h : r.Ahead n) (g : W16) (key : Key) : (r.install g key).Ahead n := by
  have hfresh : (installedBank .fresh g key).Ahead n := Bank.ahead_of_state (by simp [installedBank]) n
  have hactive : (installedBank .active g key).Ahead n := Bank.ahead_of_state (by simp [installedBank]) n
  unfold Assoc.install
  split
  · exact h.setBank .bankA hactive
  · exact h.setBank _ hfresh
  · exact h.setBank _ hfresh
  · exact h
  · exact h

theorem Assoc.Ahead.second (h : r.Ahead n) : r.second.Ahead n := by
  obtain ⟨hA, hB, hr⟩ := h
  exact ⟨hA.second, hB.second, hr⟩

end

/-! ## Monitors (R126, R131, R132, R139) -/

theorem MonitorConfig.startState_ne_inhibited (c : MonitorConfig) : c.startState ≠ .inhibited := by
  unfold MonitorConfig.startState
  split <;> simp

/-- R131: the periods of a restarted monitor run from its write. -/
theorem restartedMonitor_ahead (c : MonitorConfig) (n : Nat) : (restartedMonitor c n).Ahead n := by
  unfold restartedMonitor
  extract_lets base
  split
  · exact ⟨nofun, nofun⟩
  · split
    · exact ⟨fun _ => Nat.le_of_lt ‹_›, nofun⟩
    · exact ⟨fun e => absurd e c.startState_ne_inhibited, fun _ _ => le_of_some_eq (Nat.le_add_right _ _)⟩

theorem Monitor.ahead_of_state {r : Monitor} {n : Nat} (hs : r.state ≠ .inhibited)
    (hn : ∀ t, r.nextSample = some t → n ≤ t) : r.Ahead n := ⟨fun e => absurd e hs, fun _ => hn⟩

section
variable {r : Monitor} {n : Nat} (hn : ∀ t, r.nextSample = some t → n ≤ t)
include hn

theorem Monitor.ahead_setSample (v : W32) : (r.setSample v).1.Ahead n := by
  unfold Monitor.setSample
  split <;> exact Monitor.ahead_of_state (by simp) hn

theorem Monitor.ahead_unfiredSample (v : W32) : (r.unfiredSample v).1.Ahead n := by
  unfold Monitor.unfiredSample
  split
  · split
    · exact Monitor.ahead_setSample hn v
    · exact Monitor.ahead_setSample (r := { r with persistenceCount := 0 }) hn v
  · exact Monitor.ahead_of_state (by simp) hn

variable (h : r.Ahead n)
include h

theorem Monitor.Ahead.firedSample (v : W32) : (r.firedSample v).1.Ahead n := by
  unfold Monitor.firedSample
  split
  · split
    · exact Monitor.ahead_of_state (by simp) hn
    · exact h
  · split_ifs <;> exact h

theorem Monitor.Ahead.armingSample (v : W32) : (r.armingSample v).1.Ahead n := by
  unfold Monitor.armingSample
  split
  · exact Monitor.ahead_of_state (by simp) hn
  · exact h

/-- R127: a comparing sample starts no inhibit. -/
theorem Monitor.Ahead.compare (v : W32) : (r.compare v).1.Ahead n := by
  unfold Monitor.compare
  extract_lets r'
  split
  · exact Monitor.Ahead.armingSample (r := r') hn h v
  · exact Monitor.ahead_unfiredSample (r := r') hn v
  · exact Monitor.ahead_unfiredSample (r := r') hn v
  · exact Monitor.Ahead.firedSample (r := r') hn h v
  · exact h
  · exact h

end

/-- R125, R126: the next period runs from the sample. -/
theorem Monitor.Ahead.sample {r : Monitor} {n : Nat} (h : r.Ahead n) (c : W32) : (r.sample c n).1.Ahead n := by
  obtain ⟨hinhibit, _⟩ := h
  have next (t : Nat) : some (n + r.config.period.toNat) = some t → n ≤ t := le_of_some_eq (Nat.le_add_right _ _)
  have taken : Monitor.Ahead { r with previous := c, baseline := true, nextSample := some (n + r.config.period.toNat) } n :=
    ⟨hinhibit, fun _ => next⟩
  unfold Monitor.sample
  extract_lets r'
  split
  · exact taken
  · exact taken.compare next _

/-- R139: a monitor that is cleared goes on with its period. -/
theorem Monitor.Ahead.commandClear {r : Monitor} {n : Nat} (h : r.Ahead n) : r.commandClear.Ahead n := by
  obtain ⟨hinhibit, hsample⟩ := h
  unfold Monitor.commandClear
  split
  · exact Monitor.ahead_of_state (by simp) (hsample (by simp_all [MonitorState.samples]))
  · exact ⟨hinhibit, hsample⟩

/-! ## Report records (R144 to R152) -/

theorem ReportRecord.ahead_of_unsent {x : ReportRecord} (h : x.state = .unsent) (m : Nat) : x.Ahead m := fun e => by
  rw [h] at e
  cases e

section
variable {q : ReportQueue} {m : Nat} (h : q.Ahead m)
include h

/-- R149: the pacing timer ends. -/
theorem ReportQueue.Ahead.stopPacing : ReportQueue.Ahead { q with pacingDeadline := none } m := by
  obtain ⟨hrecords, _, hretry⟩ := h
  exact ⟨hrecords, nofun, hretry⟩

/-- R147: the retry timer ends. -/
theorem ReportQueue.Ahead.stopRetry : ReportQueue.Ahead { q with retryDeadline := none } m := by
  obtain ⟨hrecords, hpacing, _⟩ := h
  exact ⟨hrecords, hpacing, nofun⟩

/-- A change of the records alone, each of them ahead. -/
theorem ReportQueue.Ahead.records {l : List ReportRecord} (hl : ∀ x ∈ l, x ∈ q.records ∨ x.Ahead m) :
    ReportQueue.Ahead { q with records := l } m := by
  obtain ⟨hrecords, htimers⟩ := h
  exact ⟨fun x hx => (hl x hx).elim (hrecords x) id, htimers⟩

theorem ReportQueue.Ahead.modifyFirst {p : ReportRecord → Bool} {f : ReportRecord → ReportRecord}
    (hf : ∀ x, x.Ahead m → (f x).Ahead m) : ReportQueue.Ahead { q with records := modifyFirst p f q.records } m := by
  obtain ⟨hrecords, htimers⟩ := h
  refine ⟨fun x hx => ?_, htimers⟩
  obtain hx | ⟨y, hy, rfl⟩ := mem_modifyFirst hx
  · exact hrecords x hx
  · exact hf y (hrecords y hy)

/-- R143, R146: a new record is UNSENT. -/
theorem ReportQueue.Ahead.create (p : Report) (now : W32) : (q.create p now).Ahead m := by
  refine h.records (l := (q.create p now).records) fun x hx => ?_
  obtain hx | hx := List.mem_append.1 hx
  · exact .inl hx
  · rw [List.mem_singleton.1 hx]
    exact .inr (ReportRecord.ahead_of_unsent rfl m)

theorem ReportQueue.Ahead.evict : q.evict.Ahead m := h.records fun _ hx => .inl (q.evict_sublist.subset hx)

/-- R151: a record that returns is UNSENT, alone or merged. -/
theorem ReportQueue.Ahead.mergeReturning (r : ReportRecord) :
    ReportQueue.Ahead { q with records := mergeReturning q.records r } m := by
  unfold Machine.mergeReturning
  split
  · exact h.modifyFirst fun _ _ => ReportRecord.ahead_of_unsent rfl m
  · rename_i u hu
    have hunsent : u.isUnsentOf r.kind r.source = true :=
      List.find?_some (p := fun x : ReportRecord => x.isUnsentOf r.kind r.source) hu
    extract_lets merged older younger
    have hmerged : merged.Ahead m := ReportRecord.ahead_of_unsent (ReportRecord.isUnsentOf_iff.1 hunsent).1 m
    refine h.records fun x hx => ?_
    obtain hx | ⟨_, _, rfl⟩ := mem_modifyFirst hx
    · exact .inl (List.mem_of_mem_eraseP hx)
    · exact .inr hmerged

/-- R152: the records left by an acknowledgement. -/
theorem ReportQueue.Ahead.removeNumbered (ns : List W16) :
    ReportQueue.Ahead { q with records := (removeNumbered q.records ns).1 } m := by
  rw [removeNumbered_eq]
  exact h.records fun _ hx => .inl (List.mem_of_mem_filter hx)

end

/-! ## The Trunk Access Controller (R83 to R96) -/

/-- The controller `y` has the timers of `x`, and is in STANDOFF only where `x` is. -/
structure Access.Calm (x y : Access) : Prop where
  standoff : y.state = .standoff → x.state = .standoff
  deadline : y.standoffDeadline = x.standoffDeadline
  clock : y.clockDeadline = x.clockDeadline

theorem Access.Ahead.calm {x y : Access} {m : Nat} (h : x.Ahead m) (c : x.Calm y) : y.Ahead m := fun hs t ht =>
  h (c.standoff hs) t (c.deadline ▸ ht)

/-- R91: the standoff ends. -/
theorem Access.ahead_endStandoff (x : Access) (m : Nat) : x.endStandoff.Ahead m := nofun

theorem Access.Calm.trans {x y z : Access} (h : x.Calm y) (k : y.Calm z) : x.Calm z :=
  ⟨fun hs => h.standoff (k.standoff hs), k.deadline.trans h.deadline, k.clock.trans h.clock⟩

theorem SendQueue.turnState_ne_standoff (q : SendQueue) : q.turnState ≠ .standoff := by
  unfold SendQueue.turnState
  split <;> decide

section
variable (x : Access)

theorem Access.calm_insideFrame (w : WatchState) : x.Calm (x.insideFrame w) := by
  unfold Access.insideFrame
  split
  · exact ⟨id, rfl, rfl⟩
  · split <;> exact ⟨id, rfl, rfl⟩

/-- R83: octets and station bits move the line watch alone. -/
theorem Access.calm_watchOctet (o : Byte) : x.Calm (x.watchOctet o) := by
  unfold Access.watchOctet
  split
  · exact ⟨id, rfl, rfl⟩
  · exact ⟨id, rfl, rfl⟩
  · split_ifs <;> exact ⟨id, rfl, rfl⟩
  · split_ifs <;> exact x.calm_insideFrame _
  · split_ifs <;> exact x.calm_insideFrame _

theorem Access.calm_takeStationBits (n : Nat) : x.Calm (x.takeStationBits n) := by
  unfold Access.takeStationBits
  split
  · split <;> exact ⟨id, rfl, rfl⟩
  · exact ⟨id, rfl, rfl⟩

theorem Access.calm_lineQuiet (q : SendQueue) : x.Calm (x.lineQuiet q) := by
  refine ⟨fun h => ?_, rfl, rfl⟩
  simp only [Access.lineQuiet] at h
  split at h
  · exact absurd h q.turnState_ne_standoff
  · exact h

theorem Access.calm_openGap (q : SendQueue) : x.Calm (x.openGap q) := by
  unfold Access.openGap Access.countGap
  split
  · refine ⟨fun h => ?_, rfl, rfl⟩
    simp only at h
    split at h
    · exact absurd h q.turnState_ne_standoff
    · cases h
  · exact ⟨id, rfl, rfl⟩

theorem Access.calm_watchInput (q : SendQueue) (i : WatchInput) : x.Calm (x.watchInput q i) := by
  cases i with
  | idleBit =>
    show x.Calm (x.idleBit q)
    unfold Access.idleBit
    split_ifs
    · exact x.calm_lineQuiet q
    · exact x.calm_openGap q
    · exact ⟨id, rfl, rfl⟩
  | stationBit => exact x.calm_takeStationBits _
  | thirdStationBit => exact x.calm_takeStationBits _
  | octet o => exact x.calm_watchOctet o

/-- R86, R87: a claim begins, is lost or is won. -/
theorem Access.calm_startClaim (bits : List Bool) (b : Bool) : x.Calm (x.startClaim bits b) := by
  unfold Access.startClaim
  split <;> exact ⟨nofun, rfl, rfl⟩

theorem Access.calm_loseClaim (b : Fin 4) : x.Calm (x.loseClaim b) :=
  (x.calm_takeStationBits b.val).trans ⟨nofun, rfl, rfl⟩

theorem Access.calm_winClaim (q : SendQueue) : x.Calm (x.winClaim q) := by
  unfold Access.winClaim
  split <;> exact (x.calm_takeStationBits 3).trans ⟨nofun, rfl, rfl⟩

/-- R89: a release that leads to no standoff. -/
theorem Access.calm_release : x.Calm x.release := by
  unfold Access.release
  split <;> exact ⟨nofun, rfl, rfl⟩

end

end Sys2Proof.Machine
end

section
/-! What every operation of an event keeps once time has come to it: the commands that wait, the Provisioning Store, both
counts, and that no count lies beyond the deadline of a timer that runs (R171, R172, R175). -/

namespace Sys2Proof.Machine

/-! ## The fields that time and its timers are in -/

/-- The commands that wait, the Provisioning Store, the two counts and the records that hold deadlines. An operation that
changes none of them keeps this record by definition. -/
structure Schedule where
  pending : List Instr
  provisioning : Provisioning
  milliseconds : Nat
  seconds : W32
  assocs : Vector Assoc 32
  monitors : Vector Monitor 16
  reports : ReportQueue
  access : Access
  restartTakenAt : Option Nat

/-- The schedule of a state. -/
def State.schedule (s : State) : Schedule where
  pending := s.pending
  provisioning := s.provisioning
  milliseconds := s.time.milliseconds
  seconds := s.time.seconds
  assocs := s.assocs
  monitors := s.monitors
  reports := s.reports
  access := s.access
  restartTakenAt := s.management.restartTakenAt

/-- R172: the timers that run on the seconds count lie at or after a reading of it. -/
structure Schedule.SecondsAhead (x : Schedule) (n : Nat) : Prop where
  assocs : ∀ a : AssocId, x.assocs[a].Ahead n
  monitors : ∀ i : MonitorId, x.monitors[i].Ahead n

/-- R172: so do those on the millisecond count, but for the clock-loss measure. -/
structure Schedule.MillisecondsAhead (x : Schedule) (m : Nat) : Prop where
  reports : x.reports.Ahead m
  access : x.access.Ahead m
  restart : ∀ t, x.restartTakenAt = some t → m ≤ t + 2000

/-- `State.Timely` said of `State.schedule`. -/
structure Schedule.Timely (x : Schedule) : Prop where
  seconds : x.SecondsAhead x.seconds.toNat
  milliseconds : x.MillisecondsAhead x.milliseconds
  clock : ∀ t, x.access.clockDeadline = some t → x.milliseconds ≤ t

/-- R172: no deadline is passed at two readings exactly when all of them lie ahead, and the Association Store's second with
them (log entry 35). -/
theorem State.passesNone_iff_ahead {s : State} {m n : Nat} : (∀ c, ¬s.Passed m n c) ↔
    s.schedule.MillisecondsAhead m ∧ s.schedule.SecondsAhead n ∧ (s.time.storeWaits = true → n ≤ s.time.seconds.toNat) := by
  constructor
  · intro h
    have bank (a : AssocId) (b : BankId) : (s.bank a b).Ahead n := fun hs t ht =>
      Nat.not_lt.1 fun hl => h (.drainDeadlineExpiry a b) ⟨hs, t, ht, hl⟩
    refine ⟨⟨⟨fun x hx hs t ht => ?_, fun t ht => ?_, fun t ht => ?_⟩, fun hs t ht => ?_, fun t ht => ?_⟩,
      ⟨fun a => ⟨bank a .bankA, bank a .bankB, fun t ht => ?_⟩, fun i => ⟨fun hs => ?_, fun hs t ht => ?_⟩⟩,
      fun hw => ?_⟩ <;> refine Nat.not_lt.1 fun hl => ?_
    · exact h (.ackDeadlineExpiry x.number) ⟨x, hx, rfl, hs, t, ht, hl⟩
    · exact h .pacingTimerExpiry ⟨t, ht, hl⟩
    · exact h .retryTimerExpiry ⟨t, ht, hl⟩
    · exact h .standoffExpiry ⟨hs, t, ht, hl⟩
    · exact h .restartLimitExpiry ⟨t, ht, hl⟩
    · exact h (.renewRequestTimerExpiry a) ⟨t, ht, hl⟩
    · exact h (.startupInhibitExpiry i) ⟨hs, hl⟩
    · obtain ⟨hoff, hinhibited⟩ := (MonitorState.samples_iff _).1 hs
      exact h (.monitorSample i) ⟨hoff, hinhibited, t, ht, hl⟩
    · exact h .timeBaseSecond ⟨hw, hl⟩
  · rintro ⟨⟨⟨hrecords, hpacing, hretry⟩, haccess, hrestart⟩, ⟨hassocs, hmonitors⟩, hstore⟩ c h
    cases c with
    | timeBaseSecond =>
      obtain ⟨hw, hl⟩ := h
      exact Nat.not_lt.2 (hstore hw) hl
    | drainDeadlineExpiry a b =>
      obtain ⟨hs, t, ht, hl⟩ := h
      exact Nat.not_lt.2 ((hassocs a).bank b hs t ht) hl
    | renewRequestTimerExpiry a =>
      obtain ⟨t, ht, hl⟩ := h
      obtain ⟨-, -, hrenew⟩ := hassocs a
      exact Nat.not_lt.2 (hrenew t ht) hl
    | startupInhibitExpiry i =>
      obtain ⟨hs, hl⟩ := h
      exact Nat.not_lt.2 ((hmonitors i).1 hs) hl
    | monitorSample i =>
      obtain ⟨hoff, hinhibited, t, ht, hl⟩ := h
      exact Nat.not_lt.2 ((hmonitors i).2 ((MonitorState.samples_iff _).2 ⟨hoff, hinhibited⟩) t ht) hl
    | restartLimitExpiry =>
      obtain ⟨t, ht, hl⟩ := h
      exact Nat.not_lt.2 (hrestart t ht) hl
    | standoffExpiry =>
      obtain ⟨hs, t, ht, hl⟩ := h
      exact Nat.not_lt.2 (haccess hs t ht) hl
    | ackDeadlineExpiry k =>
      obtain ⟨x, hx, -, hs, t, ht, hl⟩ := h
      exact Nat.not_lt.2 (hrecords x hx hs t ht) hl
    | pacingTimerExpiry =>
      obtain ⟨t, ht, hl⟩ := h
      exact Nat.not_lt.2 (hpacing t ht) hl
    | retryTimerExpiry =>
      obtain ⟨t, ht, hl⟩ := h
      exact Nat.not_lt.2 (hretry t ht) hl
    | _ => exact h

theorem State.timely_iff (s : State) : s.Timely ↔ s.schedule.Timely := by
  constructor
  · rintro ⟨htimers, hclock⟩
    obtain ⟨hm, hn, -⟩ := State.passesNone_iff_ahead.1 htimers
    exact ⟨hn, hm, hclock⟩
  · rintro ⟨hn, hm, hclock⟩
    exact ⟨State.passesNone_iff_ahead.2 ⟨hm, hn, fun _ => Nat.le_refl _⟩, hclock⟩

/-! ## Operations at one reading of the counts -/

/-- What operations at one reading of the counts make of the schedule `x`. -/
structure Schedule.Keeps (x y : Schedule) : Prop where
  pending : y.pending = x.pending
  provisioning : y.provisioning = x.provisioning
  milliseconds : y.milliseconds = x.milliseconds
  seconds : y.seconds = x.seconds
  timely : x.Timely → y.Timely

/-- Operations at one reading of the counts have led from the schedule `x` to the state. -/
def State.OnTime (s : State) (x : Schedule) : Prop := x.Keeps s.schedule

theorem State.OnTime.refl (s : State) : s.OnTime s.schedule := ⟨rfl, rfl, rfl, rfl, id⟩

namespace State.OnTime

variable {s : State} {x : Schedule} (h : s.OnTime x)
include h

theorem modAssoc {a : AssocId} {f : Assoc → Assoc} (hf : (s.assoc a).Ahead s.now → (f (s.assoc a)).Ahead s.now) :
    (s.modAssoc a f).OnTime x := by
  refine { h with timely := fun hx => ?_ }
  obtain ⟨⟨hassocs, hmonitors⟩, ⟨hreports, haccess, hrestart⟩, hclock⟩ := h.timely hx
  refine ⟨⟨fun b => ?_, hmonitors⟩, ⟨hreports, haccess, hrestart⟩, hclock⟩
  show ((s.modAssoc a f).assoc b).Ahead s.now
  rw [State.assoc_modAssoc]
  split
  · exact hf (hassocs a)
  · exact hassocs b

theorem modBank {a : AssocId} {b : BankId} {f : Bank → Bank} (hf : (s.bank a b).Ahead s.now → (f (s.bank a b)).Ahead s.now) :
    (s.modBank a b f).OnTime x := h.modAssoc fun hr => hr.setBank b (hf (hr.bank b))

theorem setMonitor {i : MonitorId} {r : Monitor} (hr : (s.monitor i).Ahead s.now → r.Ahead s.now) :
    (s.setMonitor i r).OnTime x := by
  refine { h with timely := fun hx => ?_ }
  obtain ⟨⟨hassocs, hmonitors⟩, ⟨hreports, haccess, hrestart⟩, hclock⟩ := h.timely hx
  refine ⟨⟨hassocs, fun j => ?_⟩, ⟨hreports, haccess, hrestart⟩, hclock⟩
  show ((s.setMonitor i r).monitor j).Ahead s.now
  rw [State.monitor_setMonitor]
  split
  · exact hr (hmonitors i)
  · exact hmonitors j

theorem modReports {f : ReportQueue → ReportQueue}
    (hf : s.reports.Ahead s.time.milliseconds → (f s.reports).Ahead s.time.milliseconds) : (s.modReports f).OnTime x := by
  refine { h with timely := fun hx => ?_ }
  obtain ⟨⟨hassocs, hmonitors⟩, ⟨hreports, haccess, hrestart⟩, hclock⟩ := h.timely hx
  exact ⟨⟨hassocs, hmonitors⟩, ⟨hf hreports, haccess, hrestart⟩, hclock⟩

theorem modAccess {f : Access → Access}
    (hf : s.access.Ahead s.time.milliseconds → (f s.access).Ahead s.time.milliseconds)
    (hc : ∀ t, (f s.access).clockDeadline = some t → s.access.clockDeadline = some t ∨ s.time.milliseconds ≤ t) :
    (s.modAccess f).OnTime x := by
  refine { h with timely := fun hx => ?_ }
  obtain ⟨⟨hassocs, hmonitors⟩, ⟨hreports, haccess, hrestart⟩, hclock⟩ := h.timely hx
  exact ⟨⟨hassocs, hmonitors⟩, ⟨hreports, hf haccess, hrestart⟩, fun t ht => (hc t ht).elim (hclock t) id⟩

/-- The Trunk Access Controller starts no timer. -/
theorem calmAccess {f : Access → Access} (hf : s.access.Calm (f s.access)) : (s.modAccess f).OnTime x :=
  h.modAccess (fun ha => ha.calm hf) fun _ ht => .inl (hf.clock ▸ ht)

/-- R95, R172: an edge of the trunk clock restarts the clock-loss measure. -/
theorem clockEdge : s.clockEdge.OnTime x := h.modAccess id fun _ ht => .inr (le_of_some_eq (Nat.le_succ _) ht)

/-- R168: the restart limit runs from the taking of RESTART. -/
theorem restartTaken : (s.modManagement (fun u => { u with restartTakenAt := some s.time.milliseconds })).OnTime x := by
  refine { h with timely := fun hx => ?_ }
  obtain ⟨⟨hassocs, hmonitors⟩, ⟨hreports, haccess, -⟩, hclock⟩ := h.timely hx
  refine ⟨⟨hassocs, hmonitors⟩, ⟨hreports, haccess, fun t ht => ?_⟩, hclock⟩
  obtain rfl := Option.some.inj ht
  exact Nat.le_add_right _ _

theorem modManagement {f : Management → Management}
    (hf : (f s.management).restartTakenAt = s.management.restartTakenAt) : (s.modManagement f).OnTime x := by
  have hsame : (s.modManagement f).schedule = s.schedule := by
    rw [State.schedule, State.schedule, State.modManagement_management, hf]
    rfl
  rw [State.OnTime, hsame]
  exact h

theorem modEngine (f : Engine → Engine) : (s.modEngine f).OnTime x := h

theorem modSendQueue (f : SendQueue → SendQueue) : (s.modSendQueue f).OnTime x := h

theorem countStation (c : StationCounter) : (s.countStation c).OnTime x := h

theorem countAssoc (a : AssocId) (c : AssocCounter) : (s.countAssoc a c).OnTime x := h.modAssoc id

theorem releaseItem (a : AssocId) (b : BankId) : (s.releaseItem a b).OnTime x :=
  h.modAssoc fun hr => (hr.setBank b (hr.bank b).release).landed

/-! ## The Fault Report Queue (R144 to R152) -/

/-- R148, R149: the ack deadline and the pacing timer run from the offer. -/
theorem offerReport (r : ReportRecord) : (s.offerReport r).OnTime x := by
  refine modReports (s := s.joinOutbound _) h fun hq => ?_
  have later (k : Nat) (t : Nat) : some (s.time.milliseconds + k) = some t → s.time.milliseconds ≤ t :=
    le_of_some_eq (Nat.le_add_right _ _)
  obtain ⟨hrecords, hpacing, -⟩ := hq.modifyFirst (p := offerTest s.reports.records)
    (f := fun y => { y with state := .inFlight, ackDeadline := some (s.time.milliseconds + _) }) fun _ _ _ => later _
  refine ⟨hrecords, ?_, nofun⟩
  show ∀ t, (if s.management.settings.reportPacing = 0 then s.reports.pacingDeadline else some _) = some t → _
  split
  · exact hpacing
  · exact later _

/-- R147: the retry timer runs from the attempt that lacks control room. -/
theorem attemptSend (fuel : Nat) : (s.attemptSend fuel).OnTime x := by
  induction fuel generalizing s with
  | zero => exact h
  | succ n ih =>
    have ends : (s.modReports (fun q => { q with retryDeadline := none })).OnTime x :=
      h.modReports fun hq => hq.stopRetry
    unfold State.attemptSend
    split
    · exact ends
    · split_ifs
      · exact ends
      · exact ih (h.offerReport _)
      · refine h.modReports fun ⟨hrecords, hpacing, hretry⟩ => ⟨hrecords, hpacing, ?_⟩
        simp only
        split
        · rename_i t ht
          exact fun _ e => hretry _ (ht.trans e)
        · exact fun _ => le_of_some_eq (Nat.le_add_right _ _)

theorem sendAttempt : s.sendAttempt.OnTime x := h.attemptSend 5

theorem countReportDrop : s.countReportDrop.OnTime x := (h.countStation .reportDrop).modReports id

theorem handReport (p : Report) : (s.handReport p).OnTime x := by
  unfold State.handReport
  extract_lets now
  split_ifs
  · exact (h.modReports fun hq => hq.modifyFirst (f := fun r => r.fold p now) fun _ hx => hx).sendAttempt
  · exact (h.modReports fun hq => hq.create p now).sendAttempt
  · exact (h.countReportDrop.modReports fun hq => hq.evict.create p now).sendAttempt
  · exact h.countReportDrop.sendAttempt

theorem returnRecord (n : W16) : (s.returnRecord n).OnTime x := by
  unfold State.returnRecord
  split
  · exact h
  · exact (h.modReports fun hq => hq.mergeReturning _).sendAttempt

theorem acknowledge (ns : List W16) : (s.acknowledge ns).1.OnTime x := by
  have hleft : (s.modReports (fun q => { q with records := (removeNumbered s.reports.records ns).1 })).OnTime x :=
    h.modReports fun hq => hq.removeNumbered ns
  unfold State.acknowledge
  extract_lets r t
  split
  · exact hleft
  · exact hleft.sendAttempt

/-! ## Answers and renewal (R99 to R117, R160) -/

theorem offerAnswer (k t : Byte) (c : Completion) (b : List Byte) (y m : Bool) : (s.offerAnswer k t c b y m).OnTime x := by
  rcases s.offerAnswer_cases k t c b y m with ⟨_, e⟩ | ⟨_, e⟩ <;> rw [e] <;> exact h

theorem joinInbox (m : ControlMessage) : (s.joinInbox m).OnTime x := by
  rcases s.joinInbox_cases m with ⟨_, e⟩ | ⟨_, e⟩ <;> rw [e] <;> exact h

theorem offerRenewRequest (a : AssocId) : (s.offerRenewRequest a).OnTime x := by
  rcases s.offerRenewRequest_cases a with e | ⟨_, _, e⟩ <;> rw [e] <;> exact h

/-- R114: the renew-request timer runs from its start. -/
theorem startRenewTimer (a : AssocId) : (s.startRenewTimer a).OnTime x :=
  h.modAssoc fun hr => hr.renew fun _ => le_of_some_eq (Nat.le_add_right _ _)

theorem stopRenewTimer (a : AssocId) : (s.modAssoc a (fun r => { r with renewDeadline := none })).OnTime x :=
  h.modAssoc fun hr => hr.renew nofun

theorem evaluateDue (a : AssocId) : (s.evaluateDue a).OnTime x := by
  rcases s.evaluateDue_cases a with ⟨_, _, e⟩ | ⟨_, _, e⟩ | ⟨_, e⟩ <;> rw [e]
  · exact h
  · exact (h.offerRenewRequest a).startRenewTimer a
  · exact h.stopRenewTimer a

theorem evaluateAll (l : List AssocId) : (s.evaluateAll l).OnTime x :=
  State.evaluateAll_keeps (fun t => t.OnTime x) (fun _ a h => h.evaluateDue a) l s h

theorem promote (a : AssocId) (b : BankId) : (s.promote a b).OnTime x :=
  (h.modAssoc (f := fun r => r.promote b s.now) fun hr => hr.promote b).evaluateDue a

theorem renewTimerExpires (a : AssocId) : (s.renewTimerExpires a).OnTime x := by
  unfold State.renewTimerExpires
  split
  · exact h
  · split_ifs
    · exact h
    · exact (h.offerRenewRequest a).startRenewTimer a
    · exact h.stopRenewTimer a

theorem drainExpiry (a : AssocId) (b : BankId) : (s.drainExpiry a b).OnTime x := by
  unfold State.drainExpiry
  split
  · exact h
  · split
    · exact h.modBank fun _ => Bank.ahead_drainExpires _ _
    · exact h

theorem exhaust (a : AssocId) (b : BankId) : (s.exhaust a b).OnTime x := by
  unfold State.exhaust
  extract_lets t
  have ht : t.OnTime x := h.countAssoc a _
  split
  · exact ht
  · exact (ht.modBank id).handReport _

theorem endTransaction (a : AssocId) (c : Completion) : (s.endTransaction a c).OnTime x := by
  unfold State.endTransaction
  split
  · exact h
  · refine ((h.offerAnswer _ _ _ _ _ _).modAssoc fun hr => ?_).evaluateDue a
    exact Assoc.Ahead.landed (r := { State.assoc _ a with transaction := none }) hr

theorem wrapReject (a : AssocId) : (s.wrapReject a).OnTime x := (h.countStation .wrapReject).handReport _

theorem finishOffer (i : UnwrapItem) (key : Key) (p : Bool) : (s.finishOffer i key p).OnTime x := by
  unfold State.finishOffer
  split
  · split
    · exact (wrapReject (s := s.spendChoice) h _).endTransaction _ _
    · exact (endTransaction (s := s.spendChoice) h _ _).wrapReject _
  · exact (h.modAssoc fun hr => hr.install _ _).endTransaction _ _
  · exact h.endTransaction _ _

/-! ## The Cipher Engine (R43 to R60) -/

theorem bindOutbound (i : OutItem) (b : BankId) : (s.bindOutbound i b).OnTime x := by
  unfold State.bindOutbound
  extract_lets k c frame
  refine evaluateDue (modEngine (modSendQueue (h.modAssoc fun hr => ?_) _) _) _
  exact hr.setBank b (k := { k.charge (frameCost i.plaintext.length) with nextSequence := k.nextSequence + 1 }) (hr.bank b)

theorem bindInbound (i : InItem) : (s.bindInbound i).OnTime x := by
  unfold State.bindInbound
  extract_lets k plaintext tag
  refine evaluateDue (modEngine (h.modAssoc fun hr => ?_) _) _
  exact hr.setBank i.bank (k := k.charge (frameCost i.ciphertext.length)) (hr.bank i.bank)

theorem admitOutbound (i : OutItem) : (s.admitOutbound i).OnTime x := by
  unfold State.admitOutbound
  extract_lets r
  split
  · exact h.countAssoc _ _
  · split_ifs
    · exact h.exhaust _ _
    · exact h.bindOutbound i _
    · exact h.exhaust _ _
    · exact h.countAssoc _ _

theorem admitInbound (i : InItem) : (s.admitInbound i).OnTime x := by
  unfold State.admitInbound
  extract_lets r
  split_ifs
  · exact h.countAssoc _ _
  · exact h.bindInbound i
  · exact h.exhaust _ _
  · exact h.countAssoc _ _

theorem admitUnwrap (i : UnwrapItem) : (s.admitUnwrap i).OnTime x := by
  unfold State.admitUnwrap
  split_ifs
  · exact h.endTransaction _ _
  · exact evaluateDue (modEngine (h.modBank id) _) _
  · exact (exhaust (s := s.spendChoice) h _ _).endTransaction _ _
  · exact (endTransaction (s := s.spendChoice) h _ _).exhaust _ _

theorem serve (c : ArbiterChoice) : (s.serve c).OnTime x := by
  cases c with
  | unwrap =>
    show s.serveUnwrap.OnTime x
    unfold State.serveUnwrap
    split
    · exact h
    · exact admitUnwrap (s := s.modEngine _) h _
  | inbound =>
    show s.serveInbound.OnTime x
    unfold State.serveInbound
    split
    · exact h
    · exact admitInbound (s := s.modEngine _) h _
  | outbound =>
    show s.serveOutbound.OnTime x
    unfold State.serveOutbound
    split
    · exact h
    · exact ((h.modEngine _).modManagement rfl).admitOutbound _

/-- R80, R86: a filling leads from IDLE to RESERVED. -/
theorem fillPlace (c : TrafficClass) (f : SealedFrame) : (s.fillPlace c f).OnTime x := by
  refine calmAccess (s := s.modSendQueue _) h ?_
  split
  · exact ⟨nofun, rfl, rfl⟩
  · exact ⟨id, rfl, rfl⟩

theorem completeOutbound (a : AssocId) (b : BankId) (c : TrafficClass) (f : SealedFrame) :
    (s.completeOutbound a b c f).OnTime x := by
  unfold State.completeOutbound
  extract_lets t
  split
  · exact ((fillPlace (s := t) h c f).countAssoc _ _).releaseItem _ _
  · exact (countAssoc (s := t.modSendQueue _) h _ _).releaseItem _ _

theorem acceptInbound (i : InItem) : (s.acceptInbound i).OnTime x := by
  rw [State.acceptInbound_eq]
  extract_lets t
  have ht : t.OnTime x := h.modAssoc fun hr => hr.setBank i.bank ((hr.bank i.bank).mark i.sequence)
  split
  · exact ht.promote _ _
  · exact ht

theorem deliver (i : InItem) (p : List Byte) : (s.deliver i p).OnTime x := by
  unfold State.deliver State.joinDelivery
  split_ifs
  · exact h.joinInbox _
  · exact h
  · exact h

theorem completeInbound (i : InItem) (p g : List Byte) : (s.completeInbound i p g).OnTime x := by
  unfold State.completeInbound
  extract_lets t
  have refused (c : AssocCounter) : ((t.countAssoc i.assoc c).releaseItem i.assoc i.bank).OnTime x :=
    (countAssoc (s := t) h _ _).releaseItem _ _
  split_ifs
  · exact refused _
  · exact refused _
  · exact ((acceptInbound (s := t) h i).deliver i p).releaseItem _ _
  · exact refused _

theorem completeUnwrap (i : UnwrapItem) (key : Key) (p : Bool) : (s.completeUnwrap i key p).OnTime x :=
  (finishOffer (s := s.engineIdle) h i key p).modBank fun hk => hk.release

/-! ## Control messages (R158 to R168) -/

theorem reply (m : ControlMessage) (c : Completion) (b : List Byte) : (s.reply m c b).OnTime x := h.offerAnswer _ _ _ _ _ _

theorem conclude (m : ControlMessage) (c : Completion) (b : List Byte) : (s.conclude m c b).OnTime x := by
  unfold State.conclude
  split <;> exact h.reply _ _ _

omit h in
theorem writeEntry {w : Written} (hw : w.1.OnTime x) (t : TableId) (i : Nat) (e : List Byte) :
    (t.writeEntry w i e).1.OnTime x := by
  cases t with
  | assocConfig =>
    show (writePolicyEntry w i e).1.OnTime x
    unfold writePolicyEntry
    split
    · split
      · exact hw
      · exact hw.modAssoc id
    · exact hw
  | flow =>
    show (writeFlowEntry w i e).1.OnTime x
    unfold writeFlowEntry
    split <;> exact hw
  | monitor =>
    show (writeMonitorEntry w i e).1.OnTime x
    unfold writeMonitorEntry
    split
    · split
      · exact hw
      · exact hw.setMonitor fun _ => restartedMonitor_ahead _ _
    · exact hw
  | _ => exact hw

theorem writeEntries (t : TableId) (first count : Nat) (l : List Byte) : (s.writeEntries t first count l).1.OnTime x :=
  List.foldlRecOn (motive := fun w : Written => w.1.OnTime x) _ _ h fun _ hw _ _ => writeEntry hw _ _ _

theorem takeTableWrite (m : ControlMessage) : (s.takeTableWrite m).OnTime x := by
  unfold State.takeTableWrite
  extract_lets table first count
  split
  · exact h.reply _ _ _
  · rename_i t _
    extract_lets w body named
    have hw : w.1.OnTime x := h.writeEntries _ _ _ _
    split_ifs
    · exact hw.reply _ _ _
    · exact (evaluateAll (s := w.1.spendChoice) hw _).reply _ _ _
    · exact (reply (s := w.1.spendChoice) hw _ _ _).evaluateAll _

theorem openAssoc (a : AssocId) : (s.openAssoc a).1.OnTime x := by
  unfold State.openAssoc
  split
  · exact h
  · split
    · exact h.modAssoc id
    all_goals exact h

theorem closeAssoc (a : AssocId) : (s.closeAssoc a).1.OnTime x := by
  have closing : (s.startClosing a).OnTime x := by
    refine (h.modAssoc fun hr => ?_).evaluateDue a
    exact Assoc.Ahead.settleClosing (r := { s.assoc a with state := .closing }) hr
  unfold State.closeAssoc
  split
  · exact h
  · split
    · exact h
    · exact h
    all_goals exact closing

theorem resumeAssoc (a : AssocId) : (s.resumeAssoc a).1.OnTime x := by
  refine h.modAssoc fun hr => ?_
  split <;> exact hr

theorem keyOffer (o : Byte) (g : W16) (t : Byte) (v : Carrier) (k : Key) (c : BitVec 64) :
    (s.keyOffer o g t v k c).1.OnTime x := by
  unfold State.keyOffer
  split
  · exact h
  · split
    · exact h
    · exact evaluateDue (modEngine (h.modAssoc id) _) _

theorem keySwitch (o : Byte) (g : W16) : (s.keySwitch o g).1.OnTime x := by
  unfold State.keySwitch
  split
  · exact h
  · split
    · split
      · exact h.promote _ _
      · split <;> exact h
    · split <;> exact h

theorem keyWithdraw (o : Byte) (g : W16) : (s.keyWithdraw o g).1.OnTime x := by
  unfold State.keyWithdraw
  split
  · exact h
  · split
    · exact h
    · split_ifs
      · exact h
      · exact h
      · exact (h.modBank fun _ => emptyBank_ahead _).evaluateDue _

theorem handleMessage (m : ControlMessage) (k : MessageKind) : (s.handleMessage m k).OnTime x := by
  cases k with
  | echo => exact h.reply _ _ _
  | tableRead => exact h.conclude _ _ _
  | tableWrite => exact h.takeTableWrite m
  | assocOpen =>
    show (s.takeAssocOpen m).OnTime x
    unfold State.takeAssocOpen
    split
    · exact h.reply _ _ _
    · exact (h.openAssoc _).conclude _ _ _
  | assocClose =>
    show (s.takeAssocClose m).OnTime x
    unfold State.takeAssocClose
    split
    · exact h.reply _ _ _
    · exact (h.closeAssoc _).conclude _ _ _
  | assocResume =>
    show (s.takeAssocResume m).OnTime x
    unfold State.takeAssocResume
    split
    · exact h.reply _ _ _
    · exact (h.resumeAssoc _).conclude _ _ _
  | keyOffer =>
    show (s.takeKeyOffer m).OnTime x
    unfold State.takeKeyOffer
    extract_lets r
    have hr : r.1.OnTime x := h.keyOffer _ _ _ _ _ _
    split
    · exact hr
    · exact hr.reply _ _ _
  | keySwitch => exact (h.keySwitch _ _).reply _ _ _
  | keyWithdraw => exact (h.keyWithdraw _ _).reply _ _ _
  | monitorClear =>
    show (s.takeMonitorClear m).OnTime x
    unfold State.takeMonitorClear
    extract_lets o
    split
    · exact (h.setMonitor fun hr => hr.commandClear).reply _ _ _
    · exact h.reply _ _ _
  | reportAck => exact (h.acknowledge _).reply _ _ _
  | serviceSet =>
    show (s.takeServiceSet m).OnTime x
    unfold State.takeServiceSet
    extract_lets v
    split
    · exact (h.modManagement rfl).reply _ _ _
    · exact h.reply _ _ _
  | restart => exact h.restartTaken.offerAnswer _ _ _ _ _ _

theorem takeHead : s.takeHead.OnTime x := by
  unfold State.takeHead State.takeMessage
  split
  · exact h
  · split
    · exact (h.modManagement rfl).reply _ _ _
    · exact (h.modManagement rfl).handleMessage _ _

/-- R44, R158: the settling of an event. -/
theorem settle : s.settle.OnTime x :=
  State.settle_keeps (fun t => t.OnTime x) (fun _ h _ => h.takeHead) (fun _ c h _ => h.serve c) (fun _ h => h) s h

/-! ## The Association Store's second and the monitors (R125 to R139, R171) -/

/-- R16, R21, R171: the Association Store takes the second. -/
theorem storeSecond : s.storeSecond.OnTime x := by
  refine evaluateAll (s := { s.setStoreWaits false with assocs := s.assocs.map Assoc.second }) ?_ _
  refine { h with timely := fun hx => ?_ }
  obtain ⟨⟨hassocs, hmonitors⟩, ⟨hreports, haccess, hrestart⟩, hclock⟩ := h.timely hx
  refine ⟨⟨fun a => ?_, hmonitors⟩, ⟨hreports, haccess, hrestart⟩, hclock⟩
  show (s.assocs.map Assoc.second)[a].Ahead s.now
  rw [Fin.getElem_fin, Vector.getElem_map]
  exact (hassocs a).second

theorem inhibitExpires (i : MonitorId) : (s.inhibitExpires i).OnTime x := by
  unfold State.inhibitExpires
  extract_lets r
  split
  · exact h.setMonitor fun _ => Monitor.ahead_of_state (MonitorConfig.startState_ne_inhibited _)
      fun _ => le_of_some_eq (Nat.le_add_right _ _)
  · exact h

theorem runAction (c : MonitorConfig) : (s.runAction c).OnTime x := by
  unfold State.runAction
  split
  · exact h
  · refine (h.modAssoc fun hr => ?_).evaluateDue _
    split <;> exact hr
  · refine h.modAssoc fun hr => ?_
    split <;> exact hr

theorem takeSample (i : MonitorId) : (s.takeSample i).OnTime x := by
  unfold State.takeSample
  split
  · extract_lets r p
    have hsampled : (s.setMonitor i p.1).OnTime x := h.setMonitor fun hr => hr.sample _
    unfold State.sampleEffect
    split
    · exact hsampled
    · unfold State.fire
      extract_lets report
      split
      · exact (handReport (s := (s.setMonitor i p.1).spendChoice) hsampled _).runAction _
      · exact (runAction (s := (s.setMonitor i p.1).spendChoice) hsampled _).handReport _
    · exact hsampled.handReport _
  · exact h

/-! ## The lines (R22 to R37, R67 to R98) -/

theorem shopFrame (o : List Byte) (e : Bool) : (s.shopFrame o e).OnTime x := by
  have protects (t : State) (ht : t.OnTime x) (a : AssocId) (p : List Byte) : (t.protectFrame a p).OnTime x := by
    unfold State.protectFrame
    split_ifs
    · exact ht.countAssoc _ _
    · exact settle (s := t.joinOutbound _) ht
    · exact ht.countAssoc _ _
  unfold State.shopFrame State.classify
  extract_lets frame t
  split_ifs
  · exact h
  · exact h
  · split
    · exact h
    · split_ifs
      · exact h
      · exact protects (t.countHit _) h _ _

theorem trunkFrame (c : List Byte) : (s.trunkFrame c).OnTime x := by
  have forBank : (s.frameForBank c).OnTime x := by
    unfold State.frameForBank
    extract_lets a
    split
    · exact h.countAssoc _ _
    · split_ifs
      · exact h.countAssoc _ _
      · exact h.countAssoc _ _
      · exact settle (s := s.joinInbound _) h
  unfold State.trunkFrame
  extract_lets a
  split_ifs
  · exact h
  · exact h
  · exact h
  · exact h
  · exact h
  · exact forBank
  · exact h.countAssoc _ _

theorem receiveOctet (o : Byte) : (s.receiveOctet o).OnTime x := by
  unfold State.receiveOctet State.framingEffect
  split
  · exact h
  · exact h
  · exact trunkFrame (s := s.modReceiver _) h _

/-- R91: the standoff runs from the release. -/
theorem releaseBurst : s.releaseBurst.OnTime x := by
  unfold State.releaseBurst
  split
  · exact ((h.modAccess (fun _ _ _ => le_of_some_eq (Nat.le_add_right _ _)) fun _ => .inl).handReport _).settle
  · exact h.calmAccess s.access.calm_release

theorem hold (p : HoldPoint) : (s.hold p).OnTime x := by
  unfold State.hold
  split
  · exact h.calmAccess ⟨id, rfl, rfl⟩
  · exact (h.countStation .paceAbort).calmAccess ⟨id, rfl, rfl⟩
  · exact h.calmAccess ⟨id, rfl, rfl⟩

/-- R95, R96: a detected loss ends the standoff timer and the clock-loss measure. -/
theorem clockLost : s.clockLost.OnTime x := by
  have hlost : ((s.countStation .clockLoss).modAccess Access.clockLoss).OnTime x :=
    (h.countStation .clockLoss).modAccess nofun nofun
  refine (handReport ?_ _).settle
  unfold State.receiverClockLoss
  split <;> exact hlost

end State.OnTime

end Sys2Proof.Machine
end

section
/-! What time and the commands make of the counts, the deadlines, the commands that wait and the Provisioning Store (R171 to
R175). -/

namespace Sys2Proof.Machine

/-- The Time Base stays coherent, and no count passes the deadline of a timer that runs. -/
structure State.KeepsTime (s t : State) : Prop where
  coherent : s.time.Coherent → t.time.Coherent
  timely : s.schedule.Timely → t.schedule.Timely

/-- Beside that the commands that wait and the Provisioning Store stay. -/
structure State.Elapses (s t : State) : Prop extends s.KeepsTime t where
  pending : t.pending = s.pending
  provisioning : t.provisioning = s.provisioning

theorem State.Elapses.refl (s : State) : s.Elapses s := ⟨⟨id, id⟩, rfl, rfl⟩

theorem State.Elapses.trans {s t u : State} (h : s.Elapses t) (k : t.Elapses u) : s.Elapses u :=
  ⟨⟨fun hs => k.coherent (h.coherent hs), fun hs => k.timely (h.timely hs)⟩, k.pending.trans h.pending,
    k.provisioning.trans h.provisioning⟩

/-- Operations at one reading of the counts. -/
theorem State.OnTime.elapses {s t : State} (h : t.OnTime s.schedule) : s.Elapses t := by
  refine ⟨⟨fun hs => ?_, h.timely⟩, h.pending, h.provisioning⟩
  have hm : t.time.milliseconds = s.time.milliseconds := h.milliseconds
  have hn : t.time.seconds = s.time.seconds := h.seconds
  rw [TimeBase.Coherent, hm, hn]
  exact hs

/-! ## The passing of time (R171, R172) -/

theorem Schedule.MillisecondsAhead.mono {x : Schedule} {m m' : Nat} (h : x.MillisecondsAhead m) (hle : m' ≤ m) :
    x.MillisecondsAhead m' := by
  obtain ⟨⟨hrecords, hpacing, hretry⟩, haccess, hrestart⟩ := h
  exact ⟨⟨fun y hy hs t ht => hle.trans (hrecords y hy hs t ht), fun t ht => hle.trans (hpacing t ht),
    fun t ht => hle.trans (hretry t ht)⟩, fun hs t ht => hle.trans (haccess hs t ht), fun t ht => hle.trans (hrestart t ht)⟩

theorem Schedule.MillisecondsAhead.max {x : Schedule} {m m' : Nat} (h : x.MillisecondsAhead m)
    (h' : x.MillisecondsAhead m') : x.MillisecondsAhead (max m m') := by
  rcases Nat.le_total m m' with hle | hle
  · rw [Nat.max_eq_right hle]
    exact h'
  · rw [Nat.max_eq_left hle]
    exact h

/-- R172: the counts come to two readings at or before the deadlines of the timers that run. -/
theorem State.timely_setTime {s : State} {m : Nat} {n : W32} (hm : s.schedule.MillisecondsAhead m)
    (hn : s.schedule.SecondsAhead n.toNat) : (s.setTime m n).schedule.Timely := by
  refine ⟨⟨hn.assocs, hn.monitors⟩, ⟨hm.reports, hm.access, hm.restart⟩, fun t ht => ?_⟩
  obtain ⟨d, -, rfl⟩ := Option.map_eq_some_iff.1 ht
  show m ≤ if d < m then m + 1 else d
  split <;> omega

theorem toNat_succ_of_unsaturated {x : W32} (h : x ≠ 4294967295) : (x + 1).toNat = x.toNat + 1 := by
  have hlt := x.isLt
  have hne : x.toNat ≠ 4294967295 := fun e => h (BitVec.eq_of_toNat_eq e)
  rw [BitVec.toNat_add]
  exact Nat.mod_eq_of_lt (by simp; omega)

/-- R171: an increase of the seconds count that no deadline lies before. -/
theorem State.elapses_newSecond {s : State} (hs : s.time.seconds ≠ 4294967295)
    (hm : s.schedule.MillisecondsAhead (1000 * (s.now + 1))) (hn : s.schedule.SecondsAhead (s.now + 1)) :
    s.Elapses s.newSecond := by
  have hsucc : (s.time.seconds + 1).toNat = s.now + 1 := toNat_succ_of_unsaturated hs
  refine ⟨⟨fun ⟨hle, hlt⟩ => ?_, fun hx => ?_⟩, rfl, rfl⟩
  · have hlt : s.time.milliseconds < 1000 * (s.now + 1) := hlt.resolve_right hs
    rw [State.newSecond_time, TimeBase.Coherent]
    simp only [hsucc]
    omega
  · have hready : (s.setTime (max s.time.milliseconds (1000 * (s.now + 1))) (s.time.seconds + 1)).schedule.Timely :=
      State.timely_setTime (hx.milliseconds.max hm) (by rwa [hsucc])
    exact hready

theorem State.elapses_reach {s : State} {t : Nat} (h : s.time.milliseconds < t →
    s.schedule.MillisecondsAhead t ∧ s.schedule.SecondsAhead (s.now + 1)) : s.Elapses (s.reach t) := by
  obtain ⟨hlt, hle, hs, e⟩ | ⟨hno, e⟩ := s.reach_cases t <;> rw [e]
  · obtain ⟨hm, hn⟩ := h hlt
    exact State.elapses_newSecond hs (hm.mono hle) hn
  · refine ⟨⟨fun ⟨hle, hlt⟩ => ⟨?_, ?_⟩, fun hx => ?_⟩, rfl, rfl⟩
    · exact hle.trans (Nat.le_max_left _ _)
    · by_cases hs : s.time.seconds = 4294967295
      · exact .inr hs
      · have hno : ¬(s.time.milliseconds < t ∧ 1000 * (s.time.seconds.toNat + 1) ≤ t) := fun ⟨h1, h2⟩ => hno ⟨h1, h2, hs⟩
        have hlt := hlt.resolve_right hs
        refine .inl ?_
        simp only [State.setTime_time]
        omega
    · refine State.timely_setTime ?_ hx.seconds
      rcases Nat.lt_or_ge s.time.milliseconds t with hlt | hle
      · exact hx.milliseconds.max (h hlt).1
      · rw [Nat.max_eq_left hle]
        exact hx.milliseconds

/-- R172: the count comes to the deadline of a timer that can expire. -/
theorem State.elapses_reachDeadline {s : State} {d : Option Nat} (h : s.expires d = true) :
    s.Elapses (s.reachDeadline d) := by
  cases d with
  | none => cases h
  | some t =>
    refine State.elapses_reach fun hlt => ?_
    simp only [State.expires, State.mayReach, Bool.or_eq_true, Bool.and_eq_true, decide_eq_true_eq,
      State.passesNone_iff, State.passesNone_iff_ahead] at h
    obtain ⟨-, hm, hn, -⟩ := h.resolve_left (Nat.not_le.2 hlt)
    exact ⟨hm, hn⟩

theorem State.elapses_turn {s : State} (h : s.mayTurn = true) : s.Elapses s.newSecond := by
  obtain ⟨hs, hnone⟩ := State.mayTurn_iff.1 h
  obtain ⟨hm, hn, -⟩ := State.passesNone_iff_ahead.1 hnone
  exact State.elapses_newSecond hs hm hn

theorem State.elapses_reachSecond {s : State} {d : Option Nat} (h : s.secondExpires d = true) :
    s.Elapses (s.reachSecond d) := by
  cases d with
  | none => cases h
  | some t =>
    unfold State.reachSecond
    split
    · exact .refl s
    · rename_i hlater
      obtain ⟨-, hturn⟩ := (State.secondExpires_iff.1 h).resolve_left hlater
      exact State.elapses_turn (State.mayTurn_iff.2 hturn)

/-- R171: a millisecond passes where no timer is due. -/
theorem State.elapses_passMillisecond {s : State} (h : ∀ c, ¬s.Due c) : s.Elapses s.passMillisecond := by
  obtain ⟨hm, hn, -⟩ := State.passesNone_iff_ahead.1 h
  exact State.elapses_reach fun _ => ⟨hm, hn⟩

/-- R173: at readings 0 no deadline is passed. -/
theorem State.elapses_of_zero {s t : State} (hm : t.time.milliseconds = 0) (hn : t.time.seconds = 0)
    (hp : t.pending = s.pending) (hv : t.provisioning = s.provisioning) : s.Elapses t := by
  refine ⟨⟨fun _ => ?_, fun _ => (State.timely_iff t).1 ⟨fun c h => ?_, fun d _ => ?_⟩⟩, hp, hv⟩
  · rw [TimeBase.Coherent, hm, hn]
    decide
  · rw [hm, hn] at h
    obtain ⟨d, _, hd⟩ | ⟨d, _, hd⟩ := State.passed_iff.1 h
    · exact Nat.not_lt_zero d hd
    · exact Nat.not_lt_zero d hd
  · rw [hm]
    exact Nat.zero_le d

/-! ## Commands -/

section
variable {s t : State}

theorem State.Elapses.of_event {c : Bool} {f : State → State} (e : s.event c f = .next t)
    (hf : c = true → s.Elapses (f s)) : s.Elapses t := by
  obtain ⟨hc, rfl⟩ | rfl := State.event_next e
  · exact hf hc
  · exact .refl _

/-- An event at the reading of the counts it finds. -/
theorem State.Elapses.of_instant {c : Bool} {f : State → State} (e : s.event c f = .next t)
    (hf : s.OnTime s.schedule → (f s).OnTime s.schedule) : s.Elapses t := .of_event e fun _ => (hf (.refl s)).elapses

/-- An event of the trunk lines, at an edge of the trunk clock. -/
theorem State.Elapses.of_lineEvent {c : Bool} {f : State → State} (e : s.lineEvent c f = .next t)
    (hf : s.clockEdge.OnTime s.schedule → (f s.clockEdge).OnTime s.schedule) : s.Elapses t :=
  .of_instant e fun h => hf h.clockEdge

/-- The expiry of a timer on the millisecond count. -/
theorem State.Elapses.of_expiry {d : Option Nat} {f : State → State} (e : s.event (s.expires d) f = .next t)
    (hf : (s.reachDeadline d).OnTime (s.reachDeadline d).schedule → (f s).OnTime (s.reachDeadline d).schedule) :
    s.Elapses t := .of_event e fun hc => (State.elapses_reachDeadline hc).trans (hf (.refl _)).elapses

/-- The expiry of a timer on the seconds count. -/
theorem State.Elapses.of_secondExpiry {d : Option Nat} {f : State → State} (e : s.event (s.secondExpires d) f = .next t)
    (hf : (s.reachSecond d).OnTime (s.reachSecond d).schedule → (f s).OnTime (s.reachSecond d).schedule) :
    s.Elapses t := .of_event e fun hc => (State.elapses_reachSecond hc).trans (hf (.refl _)).elapses

/-- A control message's arrival, its taking and what follows at that event. -/
theorem State.Elapses.of_message {m : ControlMessage} (e : s.messageEvent m = .next t) : s.Elapses t :=
  .of_instant e fun h => (h.joinInbox m).settle

end

/-- R171: a Time Base second comes to the Association Store. -/
theorem State.elapses_passSecond {s : State} (h : s.secondDue = true) : s.Elapses s.passSecond := by
  unfold State.passSecond
  have hsecond : s.Elapses (if s.time.storeWaits = true then s else s.newSecond) := by
    split
    · exact .refl s
    · rename_i hw
      exact State.elapses_turn ((Bool.or_eq_true_iff.1 h).resolve_left hw)
  exact hsecond.trans (State.OnTime.refl _).storeSecond.settle.elapses

/-- R82, R88, R168: a frame leaves, and the RESTART answer's frame brings the soft reset. -/
theorem State.OnTime.elapses_sentFrame {s u : State} (h : u.OnTime s.schedule) : s.Elapses u.sentFrame := by
  unfold State.sentFrame State.frameLeaves
  split
  · exact h.elapses
  · split
    · exact h.elapses
    · split
      · exact .trans h.elapses (State.elapses_of_zero rfl rfl rfl rfl)
      · exact ((h.modSendQueue _).calmAccess ⟨id, rfl, rfl⟩).settle.elapses

/-- R171 to R175: every command but START_UP. -/
theorem exec_elapses {c : Instr} {s t : State} (hc : ∀ a p o, c ≠ .startUp a p o) (e : exec c s = .next t) :
    s.Elapses t := by
  cases c <;> simp only [exec] at e
  case startUp a p o => exact absurd rfl (hc a p o)
  case shopFrameArrival o m => exact .of_instant e fun h => h.shopFrame o m
  case shopTransmitStart | shopTransmissionEnd => exact .of_instant e fun h => h
  case trunkFramingDrop | trunkFrameArrival | trunkReceiveOctet => exact .of_lineEvent e fun h => h.receiveOctet _
  case huntDelimiterFound => exact .of_lineEvent e fun h => h
  case outboundCompletion =>
    refine .of_instant e fun h => ?_
    unfold State.outboundDone
    split
    · exact (h.completeOutbound _ _ _ _).settle
    · exact h
  case inboundCompletion =>
    refine .of_instant e fun h => ?_
    unfold State.inboundDone
    split
    · exact (h.completeInbound _ _ _).settle
    · exact h
  case unwrapCompletion =>
    refine .of_instant e fun h => ?_
    unfold State.unwrapDone
    split
    · exact (h.completeUnwrap _ _ _).settle
    · exact h
  case restartLimitExpiry => exact .of_event e fun _ => State.elapses_of_zero rfl rfl rfl rfl
  case resetCondition c b =>
    cases e
    split
    · exact State.elapses_of_zero rfl rfl rfl rfl
    · unfold State.conditionEnds
      split <;> exact State.OnTime.elapses (s := s) (by exact .refl s)
  case timeBaseSecond => exact .of_event e State.elapses_passSecond
  case drainDeadlineExpiry a b => exact .of_secondExpiry e fun h => h.drainExpiry a b
  case renewRequestTimerExpiry a => exact .of_secondExpiry e fun h => (h.renewTimerExpires a).settle
  case startupInhibitExpiry i => exact .of_secondExpiry e fun h => h.inhibitExpires i
  case monitorSample i => exact .of_secondExpiry e fun h => (h.takeSample i).settle
  case ackDeadlineExpiry n => exact .of_expiry e fun h => (h.returnRecord n).settle
  case pacingTimerExpiry =>
    exact .of_expiry e fun h => (h.modReports fun hq => hq.stopPacing).sendAttempt.settle
  case retryTimerExpiry =>
    exact .of_expiry e fun h => (h.modReports fun hq => hq.stopRetry).sendAttempt.settle
  case lineQuiet => exact .of_lineEvent e fun h => h.calmAccess (Access.calm_lineQuiet _ _)
  case openGap => exact .of_lineEvent e fun h => h.calmAccess (Access.calm_openGap _ _)
  case claimByOtherStation => exact .of_lineEvent e fun h => h.calmAccess ⟨id, rfl, rfl⟩
  case lineWatchGuard | busyPeriodEnd => exact .of_lineEvent e fun h => h.calmAccess (Access.calm_watchOctet _ _)
  case lineWatchOctet i => exact .of_lineEvent e fun h => h.calmAccess (Access.calm_watchInput _ _ i)
  case claimStart b => exact .of_lineEvent e fun h => h.calmAccess (Access.calm_startClaim _ _ b)
  case claimLost b => exact .of_lineEvent e fun h => (h.countStation _).calmAccess (Access.calm_loseClaim _ b)
  case claimWon => exact .of_lineEvent e fun h => h.calmAccess (Access.calm_winClaim _ _)
  case frameSent =>
    have hsent : s.event _ (fun s => s.clockEdge.sentFrame) = .next t := e
    exact .of_event hsent fun _ => (State.OnTime.refl s).clockEdge.elapses_sentFrame
  case clash => exact .of_lineEvent e fun h => (h.countStation _).calmAccess ⟨id, rfl, rfl⟩
  case burstRelease => exact .of_lineEvent e fun h => h.releaseBurst
  case standoffExpiry =>
    refine .of_event e fun hc => ?_
    obtain ⟨-, hexpires⟩ := Bool.and_eq_true_iff.1 hc
    exact (State.elapses_reachDeadline hexpires).trans
      ((State.OnTime.refl _).modAccess (fun _ => Access.ahead_endStandoff _ _) fun _ => .inl).elapses
  case paceHold p => exact .of_instant e fun h => h.hold p
  case paceGo => exact .of_instant e fun h => h.calmAccess ⟨id, rfl, rfl⟩
  case trunkClockLoss => exact .of_expiry e fun h => h.clockLost
  case trunkClockReturn => exact .of_instant e fun h => h.clockEdge.calmAccess ⟨id, rfl, rfl⟩
  all_goals exact .of_message e

/-- R173 to R175: START_UP writes the boot epoch or leaves it, and then all that stays stays. -/
theorem exec_startUp_elapses {a : BitVec 3} {p : Pace} {o : StartUpOutcome} {s t : State}
    (e : exec (.startUp a p o) s = .next t) : ∃ v, (v = s.provisioning ∨ v = s.provisioning.advance) ∧
      ({ s with provisioning := v } : State).Elapses t := by
  have hstart : execStartUp a p o s = .next t := e
  cases hstart
  split
  · cases o with
    | completed =>
      simp only [State.startUp, State.completeStartUp]
      have hboot : ({ s with provisioning := s.provisioning.advance } : State).Elapses (s.bootSteps a p) :=
        State.elapses_of_zero rfl rfl rfl rfl
      exact ⟨_, .inr rfl, hboot.trans ((State.OnTime.refl _).handReport _).settle.elapses⟩
    | abandonedBeforeWrite c => exact ⟨_, .inl rfl, State.elapses_of_zero rfl rfl rfl rfl⟩
    | abandonedAfterWrite c => exact ⟨_, .inr rfl, State.elapses_of_zero rfl rfl rfl rfl⟩
  · exact ⟨_, .inl rfl, .refl s⟩

/-! ## Steps -/

/-- The commands that wait and the Provisioning Store bind no count. -/
theorem State.KeepsTime.of_store {s t : State} {p : List Instr} {v : Provisioning}
    (h : ({ s with pending := p, provisioning := v } : State).KeepsTime t) : s.KeepsTime t := by
  refine ⟨h.coherent, fun ⟨hseconds, hmilliseconds, hclock⟩ => h.timely ?_⟩
  exact ⟨⟨hseconds.assocs, hseconds.monitors⟩, ⟨hmilliseconds.reports, hmilliseconds.access, hmilliseconds.restart⟩, hclock⟩

theorem exec_keepsTime {c : Instr} {s t : State} (e : exec c s = .next t) : s.KeepsTime t := by
  by_cases hc : ∃ a p o, c = .startUp a p o
  · obtain ⟨a, p, o, rfl⟩ := hc
    obtain ⟨v, -, h⟩ := exec_startUp_elapses e
    exact .of_store (p := s.pending) h.toKeepsTime
  · push Not at hc
    exact (exec_elapses hc e).toKeepsTime

theorem step_keepsTime {s t : State} (e : step s = .next t) : s.KeepsTime t := by
  unfold step at e
  split at e
  · rename_i rest _
    exact .of_store (p := rest) (v := s.provisioning) (exec_keepsTime e)
  · split at e
    · unfold idleStep at e
      obtain ⟨-, hnone⟩ := s.dueExpiry_spec
      split at e
      · have h : s.spendChoice.KeepsTime t := exec_keepsTime e
        exact ⟨h.coherent, h.timely⟩
      · rename_i hdue
        cases e
        exact (State.elapses_passMillisecond (hnone.1 hdue)).toKeepsTime
    · cases e
      exact ⟨id, id⟩

/-- Settles O8: an event brings the counts to no reading beyond a deadline, and at that reading its operations set none
behind it. -/
theorem everyStepKeepsTheTimeBaseCoherent : Obligations.EveryStepKeepsTheTimeBaseCoherent :=
  ⟨fun _ _ hs e => (step_keepsTime e).coherent hs,
    fun s t hs e => t.timely_iff.2 ((step_keepsTime e).timely (s.timely_iff.1 hs))⟩

/-- R175: the one write of step 2 lets no epoch fall and changes nothing else of the store. -/
theorem Provisioning.advance_frame (v : Provisioning) : v.advance.serial = v.serial ∧
    v.advance.provisioningKey = v.provisioningKey ∧ v.advance.revision = v.revision ∧
      v.epoch.toNat ≤ v.advance.epoch.toNat := by
  unfold Provisioning.advance
  split
  · exact ⟨rfl, rfl, rfl, Nat.le_refl _⟩
  · rename_i h
    refine ⟨rfl, rfl, rfl, ?_⟩
    simp only [Provisioning.spent, decide_eq_true_eq] at h
    show v.epoch.toNat ≤ (v.epoch + 1).toNat
    bv_omega

/-- Settles O4: every command but START_UP keeps the queue and the store, and START_UP writes the epoch at most. -/
theorem provisioningStoreKeptButForTheEpoch : Obligations.ProvisioningStoreKeptButForTheEpoch := by
  unfold Obligations.ProvisioningStoreKeptButForTheEpoch
  intro c s t e
  by_cases hc : ∃ a p o, c = .startUp a p o
  · obtain ⟨a, p, o, rfl⟩ := hc
    obtain ⟨v, hv, h⟩ := exec_startUp_elapses e
    have hstore : t.provisioning = v := h.provisioning
    refine ⟨h.pending, ?_⟩
    rw [hstore]
    rcases hv with rfl | rfl
    · exact ⟨rfl, rfl, rfl, Nat.le_refl _, fun _ => rfl⟩
    · obtain ⟨hserial, hkey, hrevision, hepoch⟩ := s.provisioning.advance_frame
      exact ⟨hserial, hkey, hrevision, hepoch, fun hother => absurd rfl (hother a p o)⟩
  · push Not at hc
    have h := exec_elapses hc e
    rw [h.pending, h.provisioning]
    exact ⟨rfl, rfl, rfl, rfl, Nat.le_refl _, fun _ => rfl⟩

end Sys2Proof.Machine
end

section
/-! A part held in reset, and the step that has no command to run (R171, R172, R173). -/

namespace Sys2Proof.Machine

/-! ## A part held in reset -/

/-- R173: no event reaches a part held in reset. -/
theorem State.event_held {s : State} (held : s.power.running = false) (condition : Bool) (f : State → State) :
    s.event condition f = .next s := by
  simp [State.event, held]

/-- R97, R173: nor does an event of the trunk lines. -/
theorem State.lineEvent_held {s : State} (held : s.power.running = false) (condition : Bool) (f : State → State) :
    s.lineEvent condition f = .next s := State.event_held held _ _

/-- Settles O3: the meaning of every command but RESET_CONDITION and START_UP is a message's arrival, an event of the trunk
lines, or another event of the running part. -/
theorem partHeldInResetTakesNothing : Obligations.PartHeldInResetTakesNothing := by
  intro c s held hreset hstart
  cases message : messageOf c with
  | some m =>
    rw [exec_message message]
    exact State.event_held held _ _
  | none =>
    cases c <;> simp only [messageOf, reduceCtorEq] at message <;> simp only [exec]
    case resetCondition x b => exact absurd rfl (hreset x b)
    case startUp a p o => exact absurd rfl (hstart a p o)
    case trunkFramingDrop | trunkFrameArrival | huntDelimiterFound | trunkReceiveOctet | lineQuiet | openGap |
        claimByOtherStation | lineWatchGuard | lineWatchOctet | busyPeriodEnd | claimStart | claimLost | claimWon |
        frameSent | clash | burstRelease =>
      exact State.lineEvent_held held _ _
    all_goals exact State.event_held held _ _

/-! ## No command waits -/

/-- R173: with no command waiting a part held in reset stays. -/
theorem step_held {s : State} (idle : s.pending = []) (held : s.power.running = false) : step s = .next s := by
  simp [step, idle, held]

/-- R172: the step of a running part with no command waiting takes the expiry that comes next, and else a millisecond. -/
theorem step_running {s : State} (idle : s.pending = []) (running : s.power.running = true) : step s = idleStep s := by
  simp [step, idle, running]

/-- R172: with a timer due, the idle step is the expiry of one that is. -/
theorem idleStep_of_due {s : State} (due : ∃ c, s.Due c) :
    ∃ c, s.Due c ∧ idleStep s = exec c { s with free := s.free + 1 } := by
  obtain ⟨isDue, noneDue⟩ := s.dueExpiry_spec
  cases h : s.dueExpiry with
  | none =>
    obtain ⟨c, hc⟩ := due
    exact absurd hc (noneDue.1 h c)
  | some c => exact ⟨c, isDue c h, by simp only [idleStep, h]; rfl⟩

/-- R171: with no timer due, the idle step is one increase of the millisecond count. -/
theorem idleStep_of_none_due {s : State} (none_due : ∀ c, ¬s.Due c) :
    idleStep s = .next (s.comesTo (s.time.milliseconds + 1)) := by
  simp only [idleStep, s.dueExpiry_spec.2.2 none_due, State.passMillisecond, State.reach_eq_comesTo]

/-- R171: the millisecond count increases within the second, or after the seconds count has saturated. -/
theorem State.comesTo_succ_within {s : State}
    (within : s.time.milliseconds + 1 < 1000 * (s.time.seconds.toNat + 1) ∨ s.time.seconds = 4294967295) :
    s.comesTo (s.time.milliseconds + 1) = s.atReadings (s.time.milliseconds + 1) s.time.seconds := by
  have no_second : ¬(s.time.milliseconds < s.time.milliseconds + 1 ∧
      1000 * (s.time.seconds.toNat + 1) ≤ s.time.milliseconds + 1 ∧ s.time.seconds ≠ 4294967295) := by
    rintro ⟨-, reached, unsaturated⟩
    exact within.elim (fun h => absurd reached h.not_ge) unsaturated
  rw [State.comesTo, if_neg no_second, max_eq_right (Nat.le_succ _)]

/-- R171: the seconds count increases where the millisecond count comes to the end of the second. -/
theorem State.comesTo_succ_second {s : State} (reached : 1000 * (s.time.seconds.toNat + 1) ≤ s.time.milliseconds + 1)
    (unsaturated : s.time.seconds ≠ 4294967295) : s.comesTo (s.time.milliseconds + 1) = s.atSecond :=
  if_pos ⟨Nat.lt_succ_self _, reached, unsaturated⟩

/-- Settles O2, by whether the part runs and whether a timer is due. -/
theorem emptyQueueStepPassesAMillisecond : Obligations.EmptyQueueStepPassesAMillisecond := by
  intro s idle
  refine ⟨step_held idle, fun running due => ?_, fun running none_due => ?_⟩
  · rw [step_running idle running]
    exact idleStep_of_due due
  · rw [step_running idle running, idleStep_of_none_due none_due]
    exact ⟨fun within => by rw [State.comesTo_succ_within within],
      fun reached unsaturated => by rw [State.comesTo_succ_second reached unsaturated]⟩

end Sys2Proof.Machine
end

section
/-! The step that has a command to run. -/

namespace Sys2Proof.Machine

/-- Settles O1: of the two branches of `step`, a queue with a first command takes the one that runs it. -/
theorem stepRunsTheFrontCommand : Obligations.StepRunsTheFrontCommand := by
  unfold Obligations.StepRunsTheFrontCommand
  intro s c rest waiting
  rw [step, waiting]

end Sys2Proof.Machine
end
